-- ==== Sys2Proof/Word.lean ====
section
/-! DEFINITION. The words of the model: the eight-bit character of both lines (spec chapter 1, R1), the Check of a
telegram, the sheet counter, and the index types of towers, drive groups, curves and attention sources (spec scope,
"Numbering"). -/

namespace Sys2Proof

/-- One character of a line, and one byte of a telegram (R1, R2). -/
abbrev Byte := BitVec 8

/-- The Check field and the CRC register (R3). -/
abbrev Check := BitVec 16

/-- A value of the 32-bit wrapping SheetCount (R83). -/
abbrev Sheets := BitVec 32

/-- A tower number 0..11. -/
abbrev TowerIx := Fin 12

/-- A drive group number 0..3 within its tower. -/
abbrev GroupIx := Fin 4

/-- A curve number 0..15. -/
abbrev CurveIx := Fin 16

/-- An attention source number 0..11. -/
abbrev SourceIx := Fin 12

/-- The twelve towers in ascending order, the order in which every rule that takes several towers takes them. -/
def allTowers : List TowerIx := [0, 1, 2, 3, 4, 5, 6, 7, 8, 9, 10, 11]

/-- The four group numbers in ascending order. -/
def allGroups : List GroupIx := [0, 1, 2, 3]

/-- The twelve attention sources in ascending order. -/
def allSources : List SourceIx := [0, 1, 2, 3, 4, 5, 6, 7, 8, 9, 10, 11]

end Sys2Proof
end

