-- ==== Sys2Proof/Syntax.lean ====
section
/-! DEFINITION. What the block receives: characters, telegrams, the level of the HOLD input, and the commands, one
constructor of `Instr` for each row of spec/opcode_table.json. -/

namespace Sys2Proof

/-- One character as a receiver gets it: its eight data bits, and whether its stop bit was there (R1). -/
structure RxChar where
  byte : Byte
  stop : Bool
  deriving DecidableEq, Repr

/-- A telegram of either line without its start marker (R2). Its Length field is the length of `payload`; its Check is
kept as received, because a forwarded telegram goes out byte for byte (R4). -/
structure Telegram where
  dest : Byte
  src : Byte
  kind : Byte
  payload : List Byte
  check : Check
  deriving DecidableEq, Repr

/-- The level of the HOLD input, and the state Hold taken from it: high is ASSERTED (R167). -/
inductive HoldLevel where
  | released
  | asserted
  deriving DecidableEq, Repr

/-- The commands of the block, one per row of spec/opcode_table.json, in the table's order. A reception carries the
characters that arrive between two idle gaps (R1); a command at which the part samples the HOLD input carries the level
it finds (R171); a timer of which there are several is named by tower, or by tower and group. The management telegrams
carry nothing: they are executed from the Management Handler's hand (R8). -/
inductive Instr where
  | powerOn (hold : HoldLevel)
  | nresetAssert
  | nresetRelease (hold : HoldLevel)
  | consoleTelegramReceived (chars : List RxChar)
  | consoleTelegramInvalid (chars : List RxChar)
  | silenceTimerExpiry
  | consoleTransmitDone
  | handlerTake
  | towerSetup
  | curveLoad
  | towerTrim
  | profileBegin
  | profileZones
  | profileEnd
  | profileIdleExpiry (tower : TowerIx)
  | jobCommit
  | keyTrim
  | densityReport
  | faultClear
  | sweepConfig
  | pressState
  | mode
  | attentionConfig
  | attentionPoll
  | queryDevice
  | queryTower
  | queryKeys
  | queryGroups
  | queryProfile
  | queryCurve
  | queryCounters
  | restart
  | warmRestart (hold : HoldLevel)
  | coldRestart (hold : HoldLevel)
  | haltGrant
  | forwardGrant
  | sweepGrant
  | moveGrant
  | driveSendComplete
  | haltSent
  | gapEnd
  | moveAcceptReceived (chars : List RxChar)
  | moveRejectReceived (chars : List RxChar)
  | statusReceived (chars : List RxChar)
  | forwardedReplyReceived (chars : List RxChar)
  | driveTelegramDiscarded (chars : List RxChar)
  | moveWindowExpiry
  | statusWindowExpiry
  | forwardTimeout
  | motionTimerExpiry (tower : TowerIx) (group : GroupIx)
  | sweepTimerExpiry
  | sheetPulse
  | holdAssert
  | holdRelease
  deriving DecidableEq, Repr

end Sys2Proof
end

