-- ==== Sys2Proof/Decode.lean ====
section
/-! DEFINITION. The words of the opcode table: spec/opcode_table.json gives bits to none of its rows, so no word spells a
command (log 19). -/

namespace Sys2Proof

/-- The command that a word spells by the table's bits: none for every word, since no row has bits. -/
def decodeTableWord (_nbits _w : Nat) : Option Instr := none

end Sys2Proof
end

