-- ==== Sys2Proof/Config.lean ====
section
/-! DEFINITION. The fixed numbers of the part: capacities of its buffers, lengths of its timers, node addresses and
kind codes, each with the rule that gives it. None of them is a free value: the spec leaves no result undefined. -/

namespace Sys2Proof.Config

/-- The inbound buffer holds up to 4 telegrams (R6). -/
def inboundPlaces : Nat := 4
/-- The transmit queue has 16 places, reserved ones counted (R13). -/
def transmitPlaces : Nat := 16
/-- The forward queue holds at most 8 telegrams (R139). -/
def forwardPlaces : Nat := 8
/-- A notice needs 4 free transmit places (R183). -/
def noticePlaces : Nat := 4
/-- The longest payload of a telegram (R2, R3). -/
def maxLength : Nat := 120

/-- The silence timer, in ms (R16). -/
def silenceMs : Nat := 1000
/-- The idle timer of a staged load, in ms (R52). -/
def idleMs : Nat := 2000
/-- The gap after a HALT or a broadcast forward, in ms (R124). -/
def gapMs : Nat := 2
/-- The reply window of a forward to a node of a disabled tower, in ms (R125). -/
def offWindowMs : Nat := 50
/-- The sweep Interval of the power-on state, in ms (R162). -/
def defaultInterval : Nat := 200
/-- The sweep Divider of the power-on state, in sheets (R162). -/
def defaultDivider : Nat := 8
/-- ABSENT groups are polled in rounds whose number is a multiple of 8 (R154). -/
def absentRounds : Nat := 8

/-- The largest key opening, in KU (R74, R108). -/
def fullTravel : Nat := 4000
/-- The largest magnitude of a KeyTrim, in KU (R85). -/
def trimLimit : Int := 1000
/-- The largest magnitude of a deviation, in 0.01 D (R90). -/
def deviationLimit : Int := 200
/-- The no-measurement marker of a density report (R89). -/
def noMeasurement : Int := -32768
/-- The skip marker of a zone run (R48). -/
def skipMarker : Nat := 65535
/-- The fourth failure of a key makes it FAULT (R110). -/
def maxRetries : Nat := 3
/-- The third consecutive expiry makes a group ABSENT (R119). -/
def maxMisses : Nat := 3
/-- The keys of one drive group (spec scope, "Numbering"). -/
def keysPerGroup : Nat := 12

/-- The start marker of a telegram (R1). -/
def startMarker : Byte := 0x5C
/-- The console gateway's node address (section 1.2). -/
def consoleNode : Byte := 0x01
/-- The ZK412's node address (section 1.2). -/
def ownNode : Byte := 0x08
/-- The broadcast address (section 1.2). -/
def broadcastNode : Byte := 0xFF

/-- Kind code of REPLY (Table 1-2). -/
def kindReply : Byte := 0x80
/-- Kind code of QUERY_DATA (Table 1-2). -/
def kindQueryData : Byte := 0x81
/-- Kind code of ATTENTION_NOTICE (Table 1-2). -/
def kindNotice : Byte := 0x82
/-- Kind code of FORWARD_TIMEOUT (Table 1-2). -/
def kindForwardTimeout : Byte := 0x83
/-- Kind code of MOVE (Table 1-2). -/
def kindMove : Byte := 0x90
/-- Kind code of MOVE_ACCEPT (Table 1-2). -/
def kindMoveAccept : Byte := 0x91
/-- Kind code of MOVE_REJECT (Table 1-2). -/
def kindMoveReject : Byte := 0x92
/-- Kind code of STATUS_REQUEST (Table 1-2). -/
def kindStatusRequest : Byte := 0x98
/-- Kind code of STATUS (Table 1-2). -/
def kindStatus : Byte := 0x99
/-- Kind code of HALT (Table 1-2). -/
def kindHalt : Byte := 0x9F

/-- PartCode of QUERY of DEVICE (R192). -/
def partCode : Nat := 0x0412
/-- Revision of QUERY of DEVICE (R192). -/
def revision : Nat := 0x01

end Sys2Proof.Config
end

