-- ==== Sys2Proof/Machine/Bytes.lean ====
section
/-! DEFINITION. Byte order, signs, and the small arithmetic of counters: multi-byte fields are sent most significant
byte first and signed fields are two's complement (R5, R191). -/

namespace Sys2Proof.Machine

/-- The low eight bits of a number, as a byte. -/
def byteOf (n : Nat) : Byte := BitVec.ofNat 8 n

/-- A flag as a byte, 1 set and 0 clear. -/
def flagByte (b : Bool) : Byte := if b then 1 else 0

/-- Two bytes, most significant first (R5). -/
def be16 (n : Nat) : List Byte := [byteOf (n / 256), byteOf n]

/-- Two bytes of a signed field in two's complement (R5). -/
def be16s (i : Int) : List Byte := be16 (i % 65536).toNat

/-- Four bytes, most significant first. -/
def be32 (n : Nat) : List Byte := [byteOf (n / 16777216), byteOf (n / 65536), byteOf (n / 256), byteOf n]

/-- The unsigned number that two bytes send (R5). -/
def u16 (hi lo : Byte) : Nat := hi.toNat * 256 + lo.toNat

/-- The signed number that two bytes send (R5). -/
def s16 (hi lo : Byte) : Int := if u16 hi lo < 32768 then (u16 hi lo : Int) else (u16 hi lo : Int) - 65536

/-- A 16-bit saturating counter, counted on by one (scope, "Numbers and arithmetic"). -/
def satAdd (n : Nat) : Nat := if n < 65535 then n + 1 else n

/-- The nearest end of the range for a value outside it, the value itself inside it (scope, "Refused and clamped"). -/
def clampNat (lo hi n : Nat) : Nat := if n < lo then lo else if hi < n then hi else n

/-- `clampNat` for signed values. -/
def clampInt (lo hi i : Int) : Int := if i < lo then lo else if hi < i then hi else i

/-- The number whose bit i is the i-th flag, the first flag bit 0. -/
def bitsOf : List Bool → Nat
  | [] => 0
  | b :: bs => (if b then 1 else 0) + 2 * bitsOf bs

/-- The node address of drive group g of tower t (section 1.2). -/
def nodeAddress (t : TowerIx) (g : GroupIx) : Byte := byteOf (0x20 + 4 * t.val + g.val)

/-- The tower and group of a node address in the drive range 0x20..0x4F, whether or not the tower has that group. -/
def nodeParts (node : Byte) : Option (TowerIx × GroupIx) :=
  if h : 0x20 ≤ node.toNat ∧ node.toNat < 0x50 then
    some (⟨(node.toNat - 0x20) / 4, by omega⟩, ⟨(node.toNat - 0x20) % 4, by omega⟩)
  else none

end Sys2Proof.Machine
end

