-- ==== Sys2Proof/Machine/State.lean ====
section
/-! DEFINITION. The state of the ZK412: one structure per block of the manual's block overview, the power-on state, and
the reasons a step could stop (there are none in this part but the interface's own). -/

namespace Sys2Proof.Machine

/-! ### Console Port and Management Handler (chapter 1) -/

/-- LinkState (R16 to R18). -/
inductive LinkState where
  | lost
  | up
  deriving DecidableEq, Repr

/-- The two restarts of the RESTART telegram (R19). -/
inductive RestartKind where
  | warm
  | cold
  deriving DecidableEq, Repr

/-- The Management Handler's wait for a restart (R19): `waiting k ahead` while the REPLY is the `ahead`-th telegram of
the transmit queue, `due k` from the moment that REPLY has left the line until the restart is taken. -/
inductive Restart where
  | idle
  | waiting (kind : RestartKind) (ahead : Nat)
  | due (kind : RestartKind)
  deriving DecidableEq, Repr

/-- The Console Port (R6, R13, R16, R18). `silence` is the remaining time in ms while the silence timer runs. -/
structure ConsolePort where
  inbound : List Telegram
  tx : List Telegram
  reservedHandler : Bool
  reservedForward : Bool
  checkErrors : Nat
  overruns : Nat
  noRouteCount : Nat
  link : LinkState
  silence : Option Nat
  lineok : Bool
  deriving DecidableEq, Repr

/-- The Management Handler (R8, R19). -/
structure Handler where
  hand : Option Telegram
  restart : Restart
  deriving DecidableEq, Repr

/-! ### Curve Library and Tower Table (chapter 2) -/

/-- A point of a curve (Table 2-3). -/
structure Point where
  coverage : Nat
  opening : Nat
  deriving DecidableEq, Repr

/-- A LOADED curve record; an EMPTY one is `none` in the library (Table 2-3). -/
structure Curve where
  refSweep : Nat
  points : List Point
  deriving DecidableEq, Repr

/-- The sixteen setup fields of a tower, `sweep` and `towerTrim` as currently stored (Table 2-1). -/
structure Setup where
  enabled : Bool
  keyCount : Nat
  keyPitch : Nat
  plateOffset : Int
  curveId : CurveIx
  minOpening : Nat
  tolerance : Nat
  replyWindow : Nat
  motionLimit : Nat
  gain : Nat
  deadBand : Nat
  stepLimit : Nat
  corrLimit : Nat
  lagSheets : Nat
  sweep : Nat
  towerTrim : Nat
  deriving DecidableEq, Repr

/-- The Phase of a tower (R29). -/
inductive Phase where
  | off
  | idle
  | presetting
  | ready
  | degraded
  deriving DecidableEq, Repr

/-! ### Profile Store (chapter 3) -/

/-- The mode of the Begin that opened a load (Table 3-1). -/
inductive LoadMode where
  | full
  | delta
  deriving DecidableEq, Repr

/-- What a profile that is not EMPTY holds in either record (Table 3-1). -/
structure ProfileBody where
  mode : LoadMode
  job : Nat
  zoneCount : Nat
  zonePitch : Nat
  zoneOrigin : Int
  sheetLeft : Nat
  sheetRight : Nat
  zones : List Nat
  clampedCount : Nat
  overrunCount : Nat
  deriving DecidableEq, Repr

/-- The status of a Staged profile that is not EMPTY (R40). -/
inductive StagedStatus where
  | loading
  | incomplete
  | complete
  deriving DecidableEq, Repr

/-- A Staged profile that is not EMPTY (Table 3-1); `incomplete` is the manual's PARTIAL. -/
structure Staged where
  status : StagedStatus
  body : ProfileBody
  written : List Bool
  pointer : Nat
  deriving DecidableEq, Repr

/-- An Active profile that is not EMPTY: COMPLETE, or PARTIAL when `complete` is false (R39). -/
structure Active where
  complete : Bool
  body : ProfileBody
  deriving DecidableEq, Repr

/-! ### Key Table (chapter 6) -/

/-- Which clamp acted on a key's Target (R74). -/
inductive Saturation where
  | none
  | high
  | low
  | closed
  deriving DecidableEq, Repr

/-- The four computed fields of a key, present together or absent together (R65). -/
structure Computed where
  coverage : Nat
  curveOpening : Nat
  target : Nat
  saturation : Saturation
  deriving DecidableEq, Repr

/-- The seven key states (Table 6-2). -/
inductive KeyState where
  | unknown
  | held
  | pending
  | moving
  | settled
  | fault
  | unreachable
  deriving DecidableEq, Repr

/-- A key record (Table 6-1); its Group is computed from its index. -/
structure Key where
  index : Nat
  computed : Option Computed
  keyTrim : Int
  corr : Int
  sentTarget : Option Nat
  lastReported : Option Nat
  state : KeyState
  retry : Nat
  settledAt : Option Sheets
  deriving DecidableEq, Repr

/-- PRESENT or ABSENT (Table 6-3). -/
inductive Presence where
  | present
  | absent
  deriving DecidableEq, Repr

/-- A group record (Table 6-3); its Node and Keys are computed from the tower and `index`. `motionTimer` is the
remaining time in ms while the MotionTimer runs. -/
structure Group where
  index : GroupIx
  presence : Presence
  missCount : Nat
  busy : Bool
  isLocal : Bool
  motionTimer : Option Nat
  generation : Nat
  timeouts : Nat
  deriving DecidableEq, Repr

/-- All that belongs to one tower: its record, its two profiles with the idle timer of the load, and its key and group
records (R37, R39, R52, R102, R114). -/
structure Tower where
  setup : Setup
  generation : Nat
  phase : Phase
  staged : Option Staged
  active : Option Active
  idle : Option Nat
  keys : List Key
  groups : List Group
  deriving DecidableEq, Repr

/-! ### Drive Line Controller (chapter 7) -/

/-- What a transaction is about: its Kind, with the items of R125 that only that kind has. -/
inductive Work where
  | move (generation : Nat) (batch : List (Nat × Nat))
  | status (generation : Nat) (keys : List Nat)
  | forward (kind : Byte)
  deriving DecidableEq, Repr

/-- The transaction record (R125). -/
structure Transaction where
  dest : Byte
  work : Work
  window : Nat
  deriving DecidableEq, Repr

/-- What a telegram in SENDING is: a HALT, a forwarded broadcast, or the telegram of a transaction (R124). -/
inductive Sending where
  | halt
  | broadcast
  | transaction (record : Transaction)
  deriving DecidableEq, Repr

/-- The drive line's state (Table 7-1). In SENDING, `warm` says that a WARM restart took effect meanwhile (R129). The
numbers of WAITING and GAP are their remaining ms. -/
inductive Line where
  | free
  | sending (what : Sending) (telegram : Telegram) (warm : Bool)
  | waiting (record : Transaction) (remaining : Nat)
  | gap (remaining : Nat)
  deriving DecidableEq, Repr

/-- The flag that alternates sweep and move grants (R132). -/
inductive Turn where
  | sweep
  | move
  deriving DecidableEq, Repr

/-- The Drive Line Controller (R124, R132, R133, R139, R144) with its output DLDE (R1). -/
structure Drive where
  line : Line
  forward : List Telegram
  rotation : List TowerIx
  turn : Turn
  haltPending : Bool
  dlde : Bool
  deriving DecidableEq, Repr

/-! ### Readback Poller (chapter 8) -/

/-- The periodic trigger in use (R148). -/
inductive SweepSource where
  | timer
  | sheet
  deriving DecidableEq, Repr

/-- An entry of the poll list (R154). -/
structure PollEntry where
  tower : TowerIx
  group : GroupIx
  node : Byte
  generation : Nat
  deriving DecidableEq, Repr

/-- The Readback Poller (Table 8-1). `inHand` says that the entry at the Cursor is on the drive line (R156). -/
structure Poller where
  source : SweepSource
  interval : Nat
  intervalPending : Option Nat
  divider : Nat
  sweepTimer : Option Nat
  dividerCount : Nat
  roundActive : Bool
  roundPending : Bool
  roundNumber : Nat
  pollList : List PollEntry
  cursor : Nat
  inHand : Bool
  deriving DecidableEq, Repr

/-! ### Press Interface (chapter 9) -/

/-- PressState (R165). -/
inductive PressState where
  | stopped
  | makeready
  | printing
  deriving DecidableEq, Repr

/-- Mode (R173). -/
inductive Mode where
  | normal
  | passthrough
  deriving DecidableEq, Repr

/-- The Press Interface (Table 9-1). -/
structure Press where
  state : PressState
  hold : HoldLevel
  mode : Mode
  deriving DecidableEq, Repr

/-! ### Attention Unit (chapter 10) -/

/-- The Detail of a pending source, in the forms of Table 10-1. -/
inductive Detail where
  | none
  | level (hold : HoldLevel)
  | tower (tower : TowerIx)
  | group (tower : TowerIx) (group : GroupIx)
  | key (tower : TowerIx) (key : Nat)
  deriving DecidableEq, Repr

/-- What a pending source holds; MergeCount is 0 and Detail absent while Pending is clear (R181). -/
structure Occurrence where
  count : Nat
  detail : Detail
  deriving DecidableEq, Repr

/-- A source record (R181). -/
structure SourceRecord where
  priority : Nat
  mask : Bool
  pending : Option Occurrence
  deriving DecidableEq, Repr

/-- The Attention Unit. `due` lists the sources due for a notice within the present event, in the order in which they
became so (R183); it is empty between events. -/
structure Attention where
  sources : Vector SourceRecord 12
  due : List SourceIx
  deriving DecidableEq, Repr

/-! ### The whole part -/

/-- The state of the part, with the queue of commands that are waiting, the front first. -/
structure State where
  nreset : Bool
  console : ConsolePort
  handler : Handler
  curves : Vector (Option Curve) 16
  towers : Vector Tower 12
  sheetCount : Sheets
  drive : Drive
  poller : Poller
  press : Press
  attention : Attention
  pending : List Instr
  deriving DecidableEq, Repr

/-- Nothing the manual describes stops the part, so there is no reason for a fault: errors are result codes, counters,
key states and attention sources. -/
inductive Fault where
  deriving DecidableEq, Repr

/-- The one reason of the interface. Every command of the table has its meaning, so no arm raises it. -/
inductive Refusal where
  /-- Raised by an arm of `exec` that has no meaning yet. Safe: the run stops. No arm raises it in this model. -/
  | notModelled (mnemonic : String)
  deriving DecidableEq, Repr

/-- The outcome of a command. -/
abbrev Outcome := Host.Outcome State Fault Refusal

/-! ### The power-on state -/

/-- A tower that is OFF with every setup field 0 (R37). -/
def Setup.zero : Setup :=
  { enabled := false, keyCount := 0, keyPitch := 0, plateOffset := 0, curveId := 0, minOpening := 0, tolerance := 0,
    replyWindow := 0, motionLimit := 0, gain := 0, deadBand := 0, stepLimit := 0, corrLimit := 0, lagSheets := 0,
    sweep := 0, towerTrim := 0 }

/-- The tower record after power-on (R37, R41, R123). -/
def Tower.off : Tower :=
  { setup := Setup.zero, generation := 0, phase := .off, staged := none, active := none, idle := none, keys := [],
    groups := [] }

/-- The source record of the given default priority (R190). -/
def SourceRecord.fresh (priority : Nat) : SourceRecord :=
  { priority := priority, mask := false, pending := none }

/-- The twelve source records at their defaults, in source order (Table 10-1, R190). -/
def Attention.fresh : Attention :=
  { sources := #v[.fresh 0, .fresh 1, .fresh 1, .fresh 2, .fresh 2, .fresh 3, .fresh 4, .fresh 5, .fresh 5, .fresh 6,
      .fresh 6, .fresh 7],
    due := [] }

/-- The machine right after reset (R21 and the rules it points to): the power-on state, with the HOLD input low (DESIGN
CHOICE, unsafe, log 7) and nothing in the queue of commands. -/
def State.reset : State :=
  { nreset := false,
    console :=
      { inbound := [], tx := [], reservedHandler := false, reservedForward := false, checkErrors := 0, overruns := 0,
        noRouteCount := 0, link := .lost, silence := none, lineok := false },
    handler := { hand := none, restart := .idle },
    curves := Vector.replicate 16 none,
    towers := Vector.replicate 12 Tower.off,
    sheetCount := 0,
    drive :=
      { line := .free, forward := [], rotation := allTowers, turn := .sweep, haltPending := false, dlde := false },
    poller :=
      { source := .timer, interval := Config.defaultInterval, intervalPending := none,
        divider := Config.defaultDivider, sweepTimer := some Config.defaultInterval, dividerCount := 0,
        roundActive := false, roundPending := false, roundNumber := 0, pollList := [], cursor := 0, inHand := false },
    press := { state := .stopped, hold := .released, mode := .normal },
    attention := Attention.fresh,
    pending := [] }

end Sys2Proof.Machine
end

