-- ==== Sys2Proof/Machine/Flags.lean ====
section
/-! DEFINITION. The codes of the manual's names in telegrams: kinds and their permitted lengths (Table 1-2), result codes
(Table 1-3), query targets (Table 10-2), states, phases, statuses and flags (chapters 3, 9 and 10). -/

namespace Sys2Proof.Machine

/-- The seventeen kinds that the ZK412 executes (Table 1-2, R10). -/
inductive Kind where
  | towerSetup
  | curveLoad
  | towerTrim
  | profileBegin
  | profileZones
  | profileEnd
  | jobCommit
  | keyTrim
  | densityReport
  | faultClear
  | sweepConfig
  | pressState
  | mode
  | attentionConfig
  | attentionPoll
  | query
  | restart
  deriving DecidableEq, Repr

/-- The seventeen kinds in the order of Table 1-2. -/
def allKinds : List Kind :=
  [.towerSetup, .curveLoad, .towerTrim, .profileBegin, .profileZones, .profileEnd, .jobCommit, .keyTrim, .densityReport,
    .faultClear, .sweepConfig, .pressState, .mode, .attentionConfig, .attentionPoll, .query, .restart]

/-- The kind codes of Table 1-2. -/
def Kind.code : Kind → Byte
  | .towerSetup => 0x10
  | .curveLoad => 0x11
  | .towerTrim => 0x12
  | .profileBegin => 0x20
  | .profileZones => 0x21
  | .profileEnd => 0x22
  | .jobCommit => 0x23
  | .keyTrim => 0x30
  | .densityReport => 0x31
  | .faultClear => 0x38
  | .sweepConfig => 0x40
  | .pressState => 0x48
  | .mode => 0x49
  | .attentionConfig => 0x50
  | .attentionPoll => 0x51
  | .query => 0x58
  | .restart => 0x5F

/-- The kind of a code, when Table 1-2 lists the code as console to ZK412. -/
def kindOf (code : Byte) : Option Kind := allKinds.find? fun k => k.code = code

/-- The permitted payload lengths of Table 1-2. -/
def Kind.lengthOk : Kind → Nat → Bool
  | .towerSetup, n => n == 23
  | .curveLoad, n => 10 ≤ n && n ≤ 66 && n % 4 == 2
  | .towerTrim, n => n == 3
  | .profileBegin, n => n == 13
  | .profileZones, n => 5 ≤ n && n ≤ 100
  | .profileEnd, n => n == 1
  | .jobCommit, n => n == 5
  | .keyTrim, n => 5 ≤ n && n ≤ 99 && n % 2 == 1
  | .densityReport, n => 4 ≤ n && n ≤ 98 && n % 2 == 0
  | .faultClear, n => n == 2
  | .sweepConfig, n => n == 4
  | .pressState, n => n == 1
  | .mode, n => n == 1
  | .attentionConfig, n => n == 3
  | .attentionPoll, n => n == 0
  | .query, n => 1 ≤ n && n ≤ 5
  | .restart, n => n == 1

/-- The result codes' names (Table 1-3). -/
inductive Result where
  | ok
  | clamped
  | badLength
  | badField
  | unknownKind
  | noRoute
  | towerOff
  | notLoading
  | notComplete
  | geometryMismatch
  | jobMismatch
  | pressPrinting
  | notPrinting
  | fwdFull
  | holdActive
  deriving DecidableEq, Repr

/-- The result codes (Table 1-3). -/
def Result.code : Result → Byte
  | .ok => 0x00
  | .clamped => 0x01
  | .badLength => 0x10
  | .badField => 0x11
  | .unknownKind => 0x12
  | .noRoute => 0x13
  | .towerOff => 0x20
  | .notLoading => 0x21
  | .notComplete => 0x22
  | .geometryMismatch => 0x23
  | .jobMismatch => 0x24
  | .pressPrinting => 0x30
  | .notPrinting => 0x31
  | .fwdFull => 0x32
  | .holdActive => 0x33

/-- CLAMPED when something was clamped, OK otherwise. -/
def Result.ofClamped (clamped : Bool) : Result := if clamped then .clamped else .ok

/-- The seven query targets (Table 10-2). -/
inductive Target where
  | device
  | tower
  | keys
  | groups
  | profile
  | curve
  | counters
  deriving DecidableEq, Repr

/-- The query targets in the order of Table 10-2. -/
def allTargets : List Target := [.device, .tower, .keys, .groups, .profile, .curve, .counters]

/-- The target codes of Table 10-2. -/
def Target.code : Target → Byte
  | .device => 0x00
  | .tower => 0x01
  | .keys => 0x02
  | .groups => 0x03
  | .profile => 0x04
  | .curve => 0x05
  | .counters => 0x06

/-- The payload lengths of Table 10-2. -/
def Target.length : Target → Nat
  | .device => 1
  | .tower => 2
  | .keys => 4
  | .groups => 2
  | .profile => 5
  | .curve => 2
  | .counters => 1

/-- The target of a code of Table 10-2. -/
def targetOf (code : Byte) : Option Target := allTargets.find? fun x => x.code = code

/-- Level codes of a HOLD_CHANGE detail and of QUERY of DEVICE (R184, R192). -/
def holdCode : HoldLevel → Byte
  | .released => 0
  | .asserted => 1

/-- PressState codes (R165). -/
def pressCode : PressState → Byte
  | .stopped => 0
  | .makeready => 1
  | .printing => 2

/-- The PressState of a code; none above 2 (R165). -/
def pressOf : Nat → Option PressState
  | 0 => some .stopped
  | 1 => some .makeready
  | 2 => some .printing
  | _ => none

/-- Mode codes (R173). -/
def modeCode : Mode → Byte
  | .normal => 0
  | .passthrough => 1

/-- The Mode of a code; none above 1 (R173). -/
def modeOf : Nat → Option Mode
  | 0 => some .normal
  | 1 => some .passthrough
  | _ => none

/-- LinkState codes (R192). -/
def linkCode : LinkState → Byte
  | .lost => 0
  | .up => 1

/-- Sweep Source codes (R147). -/
def sweepSourceCode : SweepSource → Byte
  | .timer => 0
  | .sheet => 1

/-- The sweep Source of a code; none above 1 (R147). -/
def sweepSourceOf : Nat → Option SweepSource
  | 0 => some .timer
  | 1 => some .sheet
  | _ => none

/-- Turn codes (R192). -/
def turnCode : Turn → Byte
  | .sweep => 0
  | .move => 1

/-- Phase codes (R193). -/
def phaseCode : Phase → Byte
  | .off => 0
  | .idle => 1
  | .presetting => 2
  | .ready => 3
  | .degraded => 4

/-- Key state codes (R194). -/
def keyStateCode : KeyState → Byte
  | .unknown => 0
  | .held => 1
  | .pending => 2
  | .moving => 3
  | .settled => 4
  | .fault => 5
  | .unreachable => 6

/-- Saturation codes (R194). -/
def saturationCode : Saturation → Byte
  | .none => 0
  | .high => 1
  | .low => 2
  | .closed => 3

/-- Presence codes (R195). -/
def presenceCode : Presence → Byte
  | .present => 0
  | .absent => 1

/-- LoadMode codes (Table 3-2). -/
def loadModeCode : LoadMode → Byte
  | .full => 0
  | .delta => 1

/-- The load mode of a code; none above 1 (Table 3-2). -/
def loadModeOf : Nat → Option LoadMode
  | 0 => some .full
  | 1 => some .delta
  | _ => none

/-- Status codes of a Staged profile: 0 EMPTY, 1 LOADING, 2 PARTIAL, 3 COMPLETE (section 3.4). -/
def stagedCode : Option Staged → Byte
  | none => 0
  | some p =>
    match p.status with
    | .loading => 1
    | .incomplete => 2
    | .complete => 3

/-- Status codes of an Active profile: 0 EMPTY, 2 PARTIAL, 3 COMPLETE (section 3.4). -/
def activeCode : Option Active → Byte
  | none => 0
  | some p => if p.complete then 3 else 2

end Sys2Proof.Machine
end

