-- ==== Sys2Proof/Machine/Frame.lean ====
section
/-! DEFINITION. Frames: the CRC of R3, the layout of R2, and what a receiver makes of the characters between two idle
gaps (R1, R3). -/

namespace Sys2Proof.Machine

/-- One bit of the CRC: the register shifted left, with the generator 0x1021 subtracted when a one leaves it (R3). -/
def crcBit (c : Check) : Check := if c.msb then (c <<< 1) ^^^ 0x1021#16 else c <<< 1

/-- One byte fed into the CRC register, most significant bit first (R3). -/
def crcByte (c : Check) (b : Byte) : Check :=
  crcBit (crcBit (crcBit (crcBit (crcBit (crcBit (crcBit (crcBit (c ^^^ (b.setWidth 16 <<< 8)))))))))

/-- The Check value of the bytes: the register starts at 0xFFFF and is not inverted at the end (R3). -/
def crcOf (bytes : List Byte) : Check := bytes.foldl crcByte 0xFFFF#16

/-- The bytes that the Check covers: Destination, Source, Kind, Length, Payload (R3). -/
def checkedBytes (dest src kind : Byte) (payload : List Byte) : List Byte :=
  dest :: src :: kind :: byteOf payload.length :: payload

/-- A telegram with its Check computed (R3). -/
def makeTelegram (dest src kind : Byte) (payload : List Byte) : Telegram :=
  { dest := dest, src := src, kind := kind, payload := payload, check := crcOf (checkedBytes dest src kind payload) }

/-- The bytes of a telegram on the line (R2). -/
def frameOf (t : Telegram) : List Byte :=
  Config.startMarker :: (checkedBytes t.dest t.src t.kind t.payload ++ be16 t.check.toNat)

/-- A frame as the characters of a line on which nothing went wrong. -/
def lineChars (bytes : List Byte) : List RxChar := bytes.map fun b => { byte := b, stop := true }

/-- What a receiver makes of the characters between two idle gaps: nothing when the first is no start marker, an invalid
telegram, or a valid one (R1, R3). -/
inductive Reception where
  | ignored
  | invalid
  | valid (telegram : Telegram)
  deriving DecidableEq, Repr

/-- The next `n` characters, and the characters after them; none when the line goes idle first or a stop bit is missing,
which leaves the telegram truncated (R1). -/
def takeChars : Nat → List RxChar → Option (List Byte × List RxChar)
  | 0, cs => some ([], cs)
  | _ + 1, [] => none
  | n + 1, c :: cs =>
    if c.stop then (takeChars n cs).map fun r => (c.byte :: r.1, r.2) else none

/-- The payload and the two check characters after a header (R1 to R3). -/
def receiveBody (dest src kind len : Byte) (cs : List RxChar) : Reception :=
  if Config.maxLength < len.toNat then .invalid
  else
    match takeChars len.toNat cs with
    | none => .invalid
    | some (payload, rest) =>
      match takeChars 2 rest with
      | some ([hi, lo], _) =>
        if (u16 hi lo : Nat) = (crcOf (checkedBytes dest src kind payload)).toNat then
          .valid (makeTelegram dest src kind payload)
        else .invalid
      | _ => .invalid

/-- The judgement of the characters between two idle gaps. Characters after the second check character are not read: the
receiver waits for the next idle gap (R1). A start marker without its stop bit begins a telegram and truncates it
(DEDUCED, log 5). -/
def receive : List RxChar → Reception
  | [] => .ignored
  | c :: cs =>
    if c.byte = Config.startMarker then
      if c.stop then
        match takeChars 4 cs with
        | some ([dest, src, kind, len], rest) => receiveBody dest src kind len rest
        | _ => .invalid
      else .invalid
    else .ignored

end Sys2Proof.Machine
end

