-- ==== Sys2Proof/Machine/Ops.lean ====
section
/-! DEFINITION. The named operations over the state: one update per block, the transmit queue with its reserved places
(R13), the attention sources (R181 to R185), and the shape that every command shares: nothing happens while nRESET is
asserted (R21), and the notices of an event are judged once it has made all its changes (R183). -/

namespace Sys2Proof.Machine

/-! ### One update per block -/

/-- The Console Port replaced. -/
def State.withConsole (s : State) (c : ConsolePort) : State := { s with console := c }
/-- The Management Handler replaced. -/
def State.withHandler (s : State) (h : Handler) : State := { s with handler := h }
/-- One curve record replaced. -/
def State.withCurve (s : State) (i : CurveIx) (c : Option Curve) : State := { s with curves := s.curves.set i c }
/-- One tower replaced, with its profiles and its key and group records. -/
def State.withTower (s : State) (t : TowerIx) (w : Tower) : State := { s with towers := s.towers.set t w }
/-- SheetCount replaced. -/
def State.withSheets (s : State) (n : Sheets) : State := { s with sheetCount := n }
/-- The Drive Line Controller replaced. -/
def State.withDrive (s : State) (d : Drive) : State := { s with drive := d }
/-- The Readback Poller replaced. -/
def State.withPoller (s : State) (p : Poller) : State := { s with poller := p }
/-- The Press Interface replaced. -/
def State.withPress (s : State) (p : Press) : State := { s with press := p }
/-- The Attention Unit replaced. -/
def State.withAttention (s : State) (a : Attention) : State := { s with attention := a }

/-- The record of a tower. -/
def State.tower (s : State) (t : TowerIx) : Tower := s.towers[t]

/-- A curve record of the library, none while EMPTY. -/
def State.curve (s : State) (i : CurveIx) : Option Curve := s.curves[i]

/-- The drive line put in a new state; DLDE is asserted while a telegram is being sent (R1, R124). -/
def State.withLine (s : State) (l : Line) : State :=
  s.withDrive { s.drive with line := l, dlde := match l with | .sending _ _ _ => true | _ => false }

/-! ### The transmit queue (R13) -/

/-- The places of the transmit queue that are reserved and hold no telegram (R13). -/
def ConsolePort.reserved (c : ConsolePort) : Nat :=
  (if c.reservedHandler then 1 else 0) + (if c.reservedForward then 1 else 0)

/-- The free places: 16 less the telegrams held and less the reserved places (R13). -/
def ConsolePort.freePlaces (c : ConsolePort) : Nat := Config.transmitPlaces - c.tx.length - c.reserved

/-- A telegram joins the tail of the transmit queue (R13). -/
def State.send (s : State) (t : Telegram) : State := s.withConsole { s.console with tx := s.console.tx ++ [t] }

/-- A telegram of the ZK412 to the console gateway (R4). -/
def upward (kind : Byte) (payload : List Byte) : Telegram :=
  makeTelegram Config.consoleNode Config.ownNode kind payload

/-- REPLY or QUERY_DATA: EchoKind, Result, Data (R5, R11). -/
def answerTelegram (kind echo : Byte) (r : Result) (data : List Byte) : Telegram :=
  upward kind (echo :: r.code :: data)

/-- The Handler's telegram is done with and its reservation released (R8). -/
def State.dropHeld (s : State) : State :=
  (s.withHandler { s.handler with hand := none }).withConsole { s.console with reservedHandler := false }

/-- An answer takes over the place that the Handler reserved, and the Handler then holds no telegram (R8, R11). -/
def State.answerHeld (s : State) (t : Telegram) : State := s.dropHeld.send t

/-! ### Attention sources (chapter 10) -/

/-- HOLD_CHANGE -/
def srcHoldChange : SourceIx := 0
/-- KEY_FAULT -/
def srcKeyFault : SourceIx := 1
/-- GROUP_ABSENT -/
def srcGroupAbsent : SourceIx := 2
/-- PROFILE_PARTIAL -/
def srcProfilePartial : SourceIx := 3
/-- LINK_LOST -/
def srcLinkLost : SourceIx := 4
/-- GROUP_RETURNED -/
def srcGroupReturned : SourceIx := 5
/-- TOWER_READY -/
def srcTowerReady : SourceIx := 6
/-- ZONE_OVERRUN -/
def srcZoneOverrun : SourceIx := 7
/-- CORR_LIMIT -/
def srcCorrLimit : SourceIx := 8
/-- FWD_OVERFLOW -/
def srcFwdOverflow : SourceIx := 9
/-- LINE_ERROR -/
def srcLineError : SourceIx := 10
/-- SWEEP_OVERRUN -/
def srcSweepOverrun : SourceIx := 11

/-- The record of an attention source. -/
def State.source (s : State) (i : SourceIx) : SourceRecord := s.attention.sources[i]

/-- The record of an attention source replaced. -/
def State.withSource (s : State) (i : SourceIx) (r : SourceRecord) : State :=
  s.withAttention { s.attention with sources := s.attention.sources.set i r }

/-- The MergeCount after one more occurrence, saturating at 255 (R182). -/
def mergeCount (n : Nat) : Nat := if n < 255 then n + 1 else n

/-- An occurrence of a source with its detail: latched and due for a notice when the source was not pending, merged when
it was (R182). -/
def State.raise (s : State) (i : SourceIx) (d : Detail) : State :=
  match (s.source i).pending with
  | some o => s.withSource i { s.source i with pending := some { o with count := mergeCount o.count } }
  | none =>
    s.withAttention
      { sources := s.attention.sources.set i { s.source i with pending := some { count := 1, detail := d } },
        due := s.attention.due ++ [i] }

/-- Several occurrences, one after another in the order the raising rule gives (R182). -/
def State.raiseAll (s : State) (os : List (SourceIx × Detail)) : State :=
  os.foldl (fun s o => s.raise o.1 o.2) s

/-- DetailTower, DetailKind and DetailValue (R184). -/
def detailBytes : Detail → List Byte
  | .none => [0xFF, 0, 0]
  | .level h => [0xFF, 3, holdCode h]
  | .tower t => [byteOf t.val, 0, 0]
  | .group t g => [byteOf t.val, 1, byteOf g.val]
  | .key t k => [byteOf t.val, 2, byteOf k]

/-- The six fields of a notice, and of the poll REPLY: Source, Priority, the detail, MergeCount (R184). -/
def noticeFields (i : SourceIx) (priority : Nat) (o : Occurrence) : List Byte :=
  byteOf i.val :: byteOf priority :: (detailBytes o.detail ++ [byteOf o.count])

/-- The ATTENTION_NOTICE of a source (R184). -/
def noticeTelegram (i : SourceIx) (priority : Nat) (o : Occurrence) : Telegram :=
  upward Config.kindNotice (noticeFields i priority o)

/-- The judgement of one source that is due: its notice joins the queue when the source is unmasked, the link is UP and
4 places are free (R183). -/
def State.judgeNotice (s : State) (i : SourceIx) : State :=
  match (s.source i).pending with
  | some o =>
    if (s.source i).mask = false ∧ s.console.link = .up ∧ Config.noticePlaces ≤ s.console.freePlaces then
      s.send (noticeTelegram i (s.source i).priority o)
    else s
  | none => s

/-- The end of an event: the sources that became due in it are judged one after another, in the order in which they
became so (R183). -/
def State.judgeNotices (s : State) : State :=
  let judged := s.attention.due.foldl State.judgeNotice s
  judged.withAttention { judged.attention with due := [] }

/-- A source that ATTENTION_POLL and the restoration notice can see: pending and unmasked (R17, R188). -/
def State.visible (s : State) (i : SourceIx) : Bool := (s.source i).pending.isSome && !(s.source i).mask

/-- The better of two sources: the lower Priority number, the lower source number on a tie; `i` is the lower number. -/
def betterSource (s : State) (i : SourceIx) (best : Option SourceIx) : Option SourceIx :=
  if s.visible i then
    match best with
    | some j => if (s.source i).priority ≤ (s.source j).priority then some i else some j
    | none => some i
  else best

/-- The highest-priority pending unmasked source, ties in favour of the lower source number (R17, R188). -/
def State.selectSource (s : State) : Option SourceIx := allSources.foldr (betterSource s) none

/-- The notice of a restored link: one for the selected source when 4 places are free. It clears nothing (R17, R185). -/
def State.restorationNotice (s : State) : State :=
  match s.selectSource with
  | none => s
  | some i =>
    match (s.source i).pending with
    | none => s
    | some o =>
      if Config.noticePlaces ≤ s.console.freePlaces then s.send (noticeTelegram i (s.source i).priority o) else s

/-! ### The shape of a command -/

/-- One event of the part: it does not happen while nRESET is asserted (R21), and its notices are judged when all its
changes have been made (R183). -/
def event (s : State) (change : State → State) : Outcome :=
  if s.nreset then .next s else .next (change s).judgeNotices

/-- What the rules of a kind give for a telegram in hand: the state after their changes, and the result and Data of the
answer (R11). -/
structure Answer where
  state : State
  result : Result
  data : List Byte
  deriving DecidableEq, Repr

/-- A refusal: no state changes (scope, "Refused and clamped"). -/
def refuse (s : State) (r : Result) (data : List Byte) : Answer := { state := s, result := r, data := data }

/-- The execution of a telegram in hand by the rules of its kind, after the length check of R10; the answer joins the
transmit queue when all the changes have been made (R11). -/
def executeHeld (kind : Kind) (rules : State → List Byte → Answer) (s : State) : State :=
  match s.handler.hand with
  | some t =>
    if t.kind = kind.code then
      if kind.lengthOk t.payload.length then
        let a := rules s t.payload
        a.state.answerHeld (answerTelegram Config.kindReply t.kind a.result a.data)
      else s.answerHeld (answerTelegram Config.kindReply t.kind .badLength [])
    else s
  | none => s

/-- The command of a management kind: the telegram in hand is executed when it is of that kind; otherwise the step does
not take place (log 2). -/
def management (kind : Kind) (rules : State → List Byte → Answer) (s : State) : Outcome :=
  event s (executeHeld kind rules)

end Sys2Proof.Machine
end

