-- ==== Sys2Proof/Machine/Metering.lean ====
section
/-! DEFINITION. The Metering Engine (chapter 4): the two rounding modes and the seven stages from zone coverage to Target
and Saturation, evaluated in exact integer arithmetic (R63). -/

namespace Sys2Proof.Machine

/-- A quotient rounded nearest, halves upward: twice n plus d over twice d, taken toward minus infinity (R61). -/
def roundUp (n : Int) (d : Nat) : Int := (2 * n + d) / (2 * d)

/-- A quotient rounded nearest, halves away from zero: the magnitude rounded by R61, with the numerator's sign (R62). -/
def roundAway (n : Int) (d : Nat) : Int := if n < 0 then -roundUp (-n) d else roundUp n d

/-- The left edge of key k's span (R66). -/
def keyLeft (u : Setup) (k : Nat) : Int := u.plateOffset + ((k : Int) - 1) * u.keyPitch

/-- The length of the intersection of two half-open intervals given by left edge and width, 0 when they do not meet
(R66). -/
def overlap (a aw b bw : Int) : Int := max 0 (min (a + aw) (b + bw) - max a b)

/-- The sum of zone value times overlap, over a run of zones that begins at the position `at` (R67). -/
def zoneSum (left width pitch : Int) : Int → List Nat → Int
  | _, [] => 0
  | at', v :: vs => v * overlap left width at' pitch + zoneSum left width pitch (at' + pitch) vs

/-- Stage 1: the Coverage of key k (R67). -/
def coverageOf (u : Setup) (b : ProfileBody) (k : Nat) : Nat :=
  (roundUp (zoneSum (keyLeft u k) u.keyPitch b.zonePitch b.zoneOrigin b.zones) u.keyPitch).toNat

/-- Stage 2: key k is inside the sheet, not OUTSIDE (R68). -/
def insideSheet (u : Setup) (b : ProfileBody) (k : Nat) : Bool :=
  keyLeft u k < b.sheetRight && (b.sheetLeft : Int) < keyLeft u k + u.keyPitch

/-- Stage 3: the curve read at a coverage: a point's own Opening at its Coverage, the interpolation between the two
points around it elsewhere (R69). -/
def interpolate (c : Nat) : List Point → Int
  | [] => 0
  | [p] => p.opening
  | p :: q :: ps =>
    if c ≤ p.coverage then p.opening
    else if c < q.coverage then
      roundUp
        (p.opening * ((q.coverage : Int) - p.coverage) + ((q.opening : Int) - p.opening) * ((c : Int) - p.coverage))
        (q.coverage - p.coverage)
    else interpolate c (q :: ps)

/-- The CurveOpening at a coverage (R69). -/
def curveOpeningOf (curve : Curve) (coverage : Nat) : Nat := (interpolate coverage curve.points).toNat

/-- Stage 4: the swept opening S (R71). -/
def sweptOpening (opening refSweep sweep : Nat) : Nat := (roundUp ((opening : Int) * refSweep) sweep).toNat

/-- Stage 5: the trimmed opening T (R72). -/
def trimmedOpening (swept towerTrim : Nat) : Nat := (roundUp ((swept : Int) * towerTrim) 100).toNat

/-- Stage 7: Target and Saturation, by the first case that applies (R74). -/
def clampTarget (inside : Bool) (minOpening : Nat) (r : Int) : Nat × Saturation :=
  if !inside then (0, .closed)
  else if (Config.fullTravel : Int) < r then (Config.fullTravel, .high)
  else if r < minOpening then (minOpening, .low)
  else (r.toNat, .none)

/-- The seven stages for a key with an Active profile and a curve (R66 to R74). -/
def computeStages (u : Setup) (b : ProfileBody) (curve : Curve) (k : Key) : Computed :=
  let coverage := coverageOf u b k.index
  let opening := curveOpeningOf curve coverage
  let swept := sweptOpening opening curve.refSweep u.sweep
  let trimmed := trimmedOpening swept u.towerTrim
  let raw : Int := trimmed + k.keyTrim + k.corr
  let clamped := clampTarget (insideSheet u b k.index) u.minOpening raw
  { coverage := coverage, curveOpening := opening, target := clamped.1, saturation := clamped.2 }

/-- The computation of a key: absent while the Active profile is EMPTY (R65). An EMPTY curve, which an enabled tower never
names (R65), gives absent fields too (DESIGN CHOICE, log 13). -/
def computeKey (w : Tower) (curve : Option Curve) (k : Key) : Option Computed :=
  match w.active, curve with
  | some a, some c => some (computeStages w.setup a.body c k)
  | _, _ => none

/-- A key with its four computed fields written (R75). -/
def Key.computedFrom (k : Key) (w : Tower) (curve : Option Curve) : Key := { k with computed := computeKey w curve k }

end Sys2Proof.Machine
end

