-- ==== Sys2Proof/Machine/KeyTable.lean ====
section
/-! DEFINITION. The Key Table and the tower Phase (chapters 2 and 6): the judgements of a key, the recompute outcome, the
events of a group record, and the derivation of the Phase. The commands that apply them stand in the files of the units
that raise them. -/

namespace Sys2Proof.Machine

/-! ### Keys -/

/-- The group of a key, (Index − 1) div 12 (Table 6-1). -/
def Key.group (k : Key) : Nat := (k.index - 1) / Config.keysPerGroup

/-- A position is within Tolerance of an opening (R102). -/
def withinTolerance (tolerance position opening : Nat) : Bool :=
  position ≤ opening + tolerance && opening ≤ position + tolerance

/-- A key's Target, when present. -/
def Key.target (k : Key) : Option Nat := k.computed.map Computed.target

/-- A position stands within Tolerance of an opening that may be absent; an absent one is not reached (DESIGN CHOICE for
states that no run reaches, log 13). -/
def reached (tolerance : Nat) (position opening : Option Nat) : Bool :=
  match position, opening with
  | some p, some o => withinTolerance tolerance p o
  | _, _ => false

/-- Entry into SETTLED, whatever caused it: RetryCount 0 and the present SheetCount noted. A key that is SETTLED already
stays as it is (R104, R92). So too for a key that a JOB_COMMIT settles, of which R59 says that RetryCount is kept (DEDUCED,
log 24). -/
def Key.settle (k : Key) (sheets : Sheets) : Key :=
  if k.state = .settled then k else { k with state := .settled, retry := 0, settledAt := some sheets }

/-- SETTLED when LastReported is within Tolerance of the Target, PENDING otherwise (R105). -/
def Key.rejudge (k : Key) (tolerance : Nat) (sheets : Sheets) : Key :=
  if reached tolerance k.lastReported k.target then k.settle sheets else { k with state := .pending }

/-- The recompute outcome for a key whose computed fields have been written (R105). While a PENDING key is on the drive
line in a MOVE, its outcome is held back (R106). -/
def Key.recomputeOutcome (k : Key) (tolerance : Nat) (sheets : Sheets) (onLine : Bool) : Key :=
  match k.state with
  | .held => if k.computed.isSome then k.rejudge tolerance sheets else k
  | .pending => if onLine then k else k.rejudge tolerance sheets
  | .settled => k.rejudge tolerance sheets
  | .unknown => k
  | .moving => k
  | .fault => k
  | .unreachable => k

/-- The keys after an event that were not FAULT before it and are FAULT now, with KEY_FAULT's detail, in ascending key
order (R104). -/
def newFaults (t : TowerIx) : List Key → List Key → List (SourceIx × Detail)
  | k :: ks, k' :: ks' =>
    if k.state ≠ .fault ∧ k'.state = .fault then (srcKeyFault, .key t k'.index) :: newFaults t ks ks'
    else newFaults t ks ks'
  | _, _ => []

/-! ### Group records -/

/-- The record of a drive group of a tower, when it has one. -/
def Tower.group? (w : Tower) (g : GroupIx) : Option Group := w.groups.find? fun r => r.index = g

/-- A change to one group record of a tower. -/
def Tower.mapGroup (w : Tower) (g : GroupIx) (f : Group → Group) : Tower :=
  { w with groups := w.groups.map fun r => if r.index = g then f r else r }

/-- A change to the keys of one group of a tower. -/
def Tower.mapGroupKeys (w : Tower) (g : GroupIx) (f : Key → Key) : Tower :=
  { w with keys := w.keys.map fun k => if k.group = g.val then f k else k }

/-- The keys of one group, in ascending order. -/
def Tower.groupKeys (w : Tower) (g : GroupIx) : List Key := w.keys.filter fun k => k.group = g.val

/-- Busy set and the MotionTimer started at the tower's MotionLimit (R115). -/
def Group.startMotion (r : Group) (motionLimit : Nat) : Group :=
  { r with busy := true, motionTimer := some (motionLimit * 1000) }

/-- Busy cleared and the MotionTimer stopped (R115). -/
def Group.clearMotion (r : Group) : Group := { r with busy := false, motionTimer := none }

/-- A group is eligible for a MOVE when it is PRESENT, not Busy and not Local, its tower is enabled, and one of its keys is
PENDING (R134). -/
def Tower.eligible (w : Tower) (g : GroupIx) : Bool :=
  w.setup.enabled &&
    (match w.group? g with
      | some r => r.presence == .present && !r.busy && !r.isLocal
      | none => false) &&
    (w.groupKeys g).any fun k => k.state == .pending

/-- The lowest-numbered eligible group of a tower (R135). -/
def Tower.lowestEligible (w : Tower) : Option GroupIx := allGroups.find? fun g => w.eligible g

/-! ### Phase -/

/-- The Phase as the first entry of the list of R29 whose condition holds. -/
def Tower.derivedPhase (w : Tower) : Phase :=
  if w.setup.enabled = false then .off
  else if w.active.isNone then .idle
  else if w.keys.any fun k => k.state == .fault || k.state == .unreachable then .degraded
  else if w.keys.all fun k => k.state == .settled then .ready
  else .presetting

/-- The derivation of a tower's Phase at the end of an event; entering READY raises TOWER_READY (R30, R31). -/
def State.derivePhase (s : State) (t : TowerIx) : State :=
  let w := s.tower t
  let s' := s.withTower t { w with phase := w.derivedPhase }
  if w.derivedPhase = .ready ∧ w.phase ≠ .ready then s'.raise srcTowerReady (.tower t) else s'

/-! ### What is on the drive line -/

/-- The transaction in hand, unless a WARM restart has abandoned it (R125, R129). -/
def Line.transaction? : Line → Option Transaction
  | .sending (.transaction r) _ false => some r
  | .waiting r _ => some r
  | _ => none

/-- A key is on the line: the MOVE in hand carries it, for the group record as it stands (R106; log 22 for the
Generation). -/
def State.onLine (s : State) (t : TowerIx) (k : Key) : Bool :=
  match s.drive.line.transaction? with
  | some { dest, work := .move generation batch, .. } =>
    match nodeParts dest with
    | some (t', g) =>
      t' == t && g.val == k.group && (s.tower t).generation == generation && batch.any fun b => b.1 == k.index
    | none => false
  | _ => false

/-! ### Recomputes (R75, R77, R79) -/

/-- A key computed and handed to the Key Table (R75). -/
def State.recomputedKey (s : State) (t : TowerIx) (k : Key) : Key :=
  let w := s.tower t
  let k' := k.computedFrom w (s.curve w.setup.curveId)
  k'.recomputeOutcome w.setup.tolerance s.sheetCount (s.onLine t k)

/-- The keys of a tower that the test names recomputed, in ascending key order. The Phase is derived by the event when its
last key has been handled (R77, R79). -/
def State.recomputeKeys (s : State) (t : TowerIx) (named : Key → Bool) : State :=
  let w := s.tower t
  s.withTower t { w with keys := w.keys.map fun k => if named k then s.recomputedKey t k else k }

/-- A whole-tower recompute with its one Phase derivation (R77). -/
def State.recomputeTower (s : State) (t : TowerIx) : State := (s.recomputeKeys t fun _ => true).derivePhase t

/-! ### The end of a MOVE (R106, R117 to R120) -/

/-- The keys of the batch that are still PENDING are judged as R105 gives for PENDING (R106). -/
def Tower.judgeBatch (w : Tower) (g : GroupIx) (batch : List (Nat × Nat)) (sheets : Sheets) : Tower :=
  w.mapGroupKeys g fun k =>
    if k.state = .pending ∧ batch.any (fun b => b.1 == k.index) then k.rejudge w.setup.tolerance sheets else k

/-- A key of the batch at MOVE_ACCEPT: MOVING toward the target that the MOVE carried for it, when it is still PENDING
(R117). -/
def Key.accept (k : Key) (batch : List (Nat × Nat)) : Key :=
  match k.state, batch.find? fun b => b.1 == k.index with
  | .pending, some b => { k with state := .moving, sentTarget := some b.2 }
  | _, _ => k

/-- MOVE_ACCEPT applied to a tower (R117). -/
def Tower.applyAccept (w : Tower) (g : GroupIx) (batch : List (Nat × Nat)) : Tower :=
  (w.mapGroup g fun r => { r with missCount := 0 }.startMotion w.setup.motionLimit).mapGroupKeys g
    fun k => k.accept batch

/-- The two reasons of a MOVE_REJECT (Table 1-2). -/
inductive RejectReason where
  | panelLocal
  | driveBusy
  deriving DecidableEq, Repr

/-- MOVE_REJECT applied to a tower (R118). -/
def Tower.applyReject (w : Tower) (g : GroupIx) (batch : List (Nat × Nat)) (reason : RejectReason) (sheets : Sheets) :
    Tower :=
  (w.judgeBatch g batch sheets).mapGroup g fun r =>
    match reason with
    | .panelLocal => { r with missCount := 0, isLocal := true }
    | .driveBusy => { r with missCount := 0 }.startMotion w.setup.motionLimit

/-- A group becomes ABSENT when the expiry brings MissCount to 3 (R119). -/
def Group.goesAbsent (r : Group) : Bool := r.missCount + 1 == Config.maxMisses

/-- The record of a group after an expiry (R119, R120). -/
def Group.missed (r : Group) : Group :=
  let r' := { r with timeouts := satAdd r.timeouts,
                     missCount := if r.missCount < Config.maxMisses then r.missCount + 1 else r.missCount }
  if r.goesAbsent then { r'.clearMotion with presence := .absent } else r'

/-- An expiry counted against a group: Timeouts and MissCount, and at the third consecutive one the group ABSENT and its
keys UNREACHABLE (R119, R120). -/
def Tower.applyMiss (w : Tower) (g : GroupIx) : Tower :=
  match w.group? g with
  | some r =>
    let w' := w.mapGroup g Group.missed
    if r.goesAbsent then w'.mapGroupKeys g fun k => { k with state := .unreachable } else w'
  | none => w

/-- The occurrence of GROUP_ABSENT that an expiry makes (R120). -/
def Tower.absence (w : Tower) (t : TowerIx) (g : GroupIx) : List (SourceIx × Detail) :=
  match w.group? g with
  | some r => if r.goesAbsent then [(srcGroupAbsent, .group t g)] else []
  | none => []

/-! ### STATUS replies (R107 to R111, R122) -/

/-- An entry of a STATUS reply (R5). -/
structure StatusEntry where
  key : Nat
  fault : Bool
  moving : Bool
  position : Nat
  deriving DecidableEq, Repr

/-- An entry for a key at rest that is MOVING: the motion is judged (R110). -/
def Key.endMotion (k : Key) (position tolerance : Nat) (sheets : Sheets) : Key :=
  match k.sentTarget with
  | some sent =>
    if withinTolerance tolerance position sent then
      if reached tolerance (some position) k.target then k.settle sheets else { k with state := .pending, retry := 0 }
    else if k.retry < Config.maxRetries then { k with state := .pending, retry := k.retry + 1 }
    else { k with state := .fault }
  | none =>
    if k.computed.isNone then { k with state := .held }
    else if reached tolerance (some position) k.target then k.settle sheets
    else { k with state := .pending }

/-- An entry for a key at rest, by the key's state (R110, R111). -/
def Key.atRest (k : Key) (position tolerance : Nat) (sheets : Sheets) : Key :=
  match k.state with
  | .moving => k.endMotion position tolerance sheets
  | .unknown => if k.computed.isNone then { k with state := .held } else k.rejudge tolerance sheets
  | .held => k
  | .pending => k.rejudge tolerance sheets
  | .settled => k.rejudge tolerance sheets
  | .fault => k
  | .unreachable => k

/-- One entry of a STATUS reply applied to its key (R108 to R111). -/
def Key.applyEntry (k : Key) (e : StatusEntry) (tolerance : Nat) (sheets : Sheets) : Key :=
  let position := min e.position Config.fullTravel
  let k' := { k with lastReported := some position }
  if k.state = .fault then k'
  else if e.fault then { k' with state := .fault }
  else if e.moving then
    if k.state = .moving then k' else { k' with state := .moving, sentTarget := none }
  else k'.atRest position tolerance sheets

/-- A key of a group that returns: UNKNOWN, RetryCount 0, no SentTarget (R122). -/
def Key.returned (k : Key) : Key := { k with state := .unknown, retry := 0, sentTarget := none }

/-- The group record after a STATUS reply (R107, R122). -/
def Group.applyStatus (r : Group) (isLocal anyMoving : Bool) (motionLimit : Nat) : Group :=
  let r' := { r with missCount := 0, presence := .present, isLocal := isLocal }
  if anyMoving then (if r.busy then r' else r'.startMotion motionLimit) else r'.clearMotion

/-- The keys of a group before the entries of a STATUS reply are read: those of a returning group become UNKNOWN (R107,
R122). -/
def Tower.beforeEntries (w : Tower) (g : GroupIx) (r : Group) : Tower :=
  if r.presence = .absent then w.mapGroupKeys g Key.returned else w

/-- A STATUS reply applied to a tower: the group record first, then the entries (R107). -/
def Tower.applyStatus (w : Tower) (g : GroupIx) (r : Group) (isLocal : Bool) (entries : List StatusEntry)
    (sheets : Sheets) : Tower :=
  ((w.beforeEntries g r).mapGroup g fun r => r.applyStatus isLocal (entries.any StatusEntry.moving) w.setup.motionLimit
    ).mapGroupKeys g fun k =>
      match entries.find? fun e => e.key == k.index with
      | some e => k.applyEntry e w.setup.tolerance sheets
      | none => k

/-- The occurrences of a STATUS reply in their order: GROUP_RETURNED before any KEY_FAULT (R104, R122). -/
def Tower.statusOccurrences (w : Tower) (t : TowerIx) (g : GroupIx) (r : Group) (w' : Tower) :
    List (SourceIx × Detail) :=
  (if r.presence = .absent then [(srcGroupReturned, .group t g)] else []) ++
    newFaults t (w.beforeEntries g r).keys w'.keys

/-- A STATUS reply taken by the Key Table as one event (R107). -/
def State.applyStatus (s : State) (t : TowerIx) (g : GroupIx) (r : Group) (isLocal : Bool)
    (entries : List StatusEntry) : State :=
  let w := s.tower t
  let w' := w.applyStatus g r isLocal entries s.sheetCount
  ((s.withTower t w').raiseAll (w.statusOccurrences t g r w')).derivePhase t

/-- An expiry taken by the Key Table as one event, after the judgement of a MOVE's batch where there is one (R106, R119,
R120). -/
def State.applyExpiry (s : State) (t : TowerIx) (g : GroupIx) (judged : Tower) : State :=
  ((s.withTower t (judged.applyMiss g)).raiseAll (judged.absence t g)).derivePhase t

/-! ### Motion, HALT, PASSTHROUGH and restart -/

/-- The MotionTimer's expiry applied to a tower (R116). -/
def Tower.applyMotionExpiry (w : Tower) (g : GroupIx) : Tower :=
  (w.mapGroup g Group.clearMotion).mapGroupKeys g fun k => if k.state = .moving then { k with state := .fault } else k

/-- A key of a Busy group when a HALT has been sent (R169). -/
def Key.halted (k : Key) : Key :=
  if k.state = .moving then { k with state := if k.computed.isSome then .pending else .held } else k

/-- A group of a tower is Busy. -/
def Tower.busyGroup (w : Tower) (g : Nat) : Bool := w.groups.any fun r => r.index.val == g && r.busy

/-- The effects of a HALT sent on one tower (R169). -/
def Tower.halted (w : Tower) : Tower :=
  { w with keys := w.keys.map (fun k => if w.busyGroup k.group then k.halted else k),
           groups := w.groups.map fun r => if r.busy then r.clearMotion else r }

/-- The effects of a HALT sent, with one Phase derivation for each tower that had a Busy group (R169). -/
def State.haltTower (s : State) (t : TowerIx) : State :=
  let w := s.tower t
  if w.setup.enabled && w.groups.any Group.busy then (s.withTower t w.halted).derivePhase t else s

/-- The effects of a HALT sent on every tower, in ascending order (R169). -/
def State.haltEffects (s : State) : State := allTowers.foldl State.haltTower s

/-- A key at the entry into PASSTHROUGH (R174). -/
def Key.enterPassthrough (k : Key) : Key :=
  if k.state = .fault ∨ k.state = .unreachable then k else { k with state := .unknown, retry := 0 }

/-- The entry into PASSTHROUGH applied to an enabled tower, with its Phase derivation (R174). -/
def State.passthroughTower (s : State) (t : TowerIx) : State :=
  let w := s.tower t
  if w.setup.enabled then
    (s.withTower t { w with keys := w.keys.map Key.enterPassthrough, groups := w.groups.map Group.clearMotion }).derivePhase t
  else s

/-- A key renewed by a WARM restart, before its recompute (R123). -/
def Key.renewed (k : Key) : Key :=
  { k with state := .unknown, retry := 0, sentTarget := none, lastReported := none, settledAt := none }

/-- A group renewed by a WARM restart (R123). -/
def Group.renewed (r : Group) (generation : Nat) : Group :=
  { r with presence := .present, missCount := 0, busy := false, motionTimer := none, isLocal := false,
           generation := generation }

/-- The next Generation of a tower (R23, R37). -/
def nextGeneration (g : Nat) : Nat := (g + 1) % 256

/-- The number of drive groups that serve the given number of keys, ceil(KeyCount / 12) (R24). -/
def groupCount (keyCount : Nat) : Nat := (keyCount + (Config.keysPerGroup - 1)) / Config.keysPerGroup

/-- A new key record (R24). -/
def Key.fresh (index : Nat) : Key :=
  { index := index, computed := none, keyTrim := 0, corr := 0, sentTarget := none, lastReported := none,
    state := .unknown, retry := 0, settledAt := none }

/-- A new group record (R24). -/
def Group.fresh (generation : Nat) (index : GroupIx) : Group :=
  { index := index, presence := .present, missCount := 0, busy := false, isLocal := false, motionTimer := none,
    generation := generation, timeouts := 0 }

end Sys2Proof.Machine
end

