-- ==== Sys2Proof/Machine/Operands.lean ====
section
/-! DEFINITION. How the fields of a payload are read: by offset, most significant byte first, unsigned or two's
complement (R5), and as runs of two-byte values (R32, R48, R86, R89). -/

namespace Sys2Proof.Machine

/-- The byte at an offset of a payload, as a number. -/
def byteAt (p : List Byte) (i : Nat) : Nat := (p.getD i 0).toNat

/-- The unsigned two-byte field at an offset of a payload. -/
def u16At (p : List Byte) (i : Nat) : Nat := u16 (p.getD i 0) (p.getD (i + 1) 0)

/-- The signed two-byte field at an offset of a payload. -/
def s16At (p : List Byte) (i : Nat) : Int := s16 (p.getD i 0) (p.getD (i + 1) 0)

/-- A run of unsigned two-byte values; a lone byte at the end completes no value (R49). -/
def u16Run : List Byte → List Nat
  | hi :: lo :: rest => u16 hi lo :: u16Run rest
  | _ => []

/-- A run of signed two-byte values. -/
def s16Run : List Byte → List Int
  | hi :: lo :: rest => s16 hi lo :: s16Run rest
  | _ => []

/-- The tower with the given number; none above 11. -/
def towerOf (n : Nat) : Option TowerIx := if h : n < 12 then some ⟨n, h⟩ else none

/-- The curve with the given number; none above 15. -/
def curveOf (n : Nat) : Option CurveIx := if h : n < 16 then some ⟨n, h⟩ else none

/-- The attention source with the given number; none above 11. -/
def sourceOf (n : Nat) : Option SourceIx := if h : n < 12 then some ⟨n, h⟩ else none

end Sys2Proof.Machine
end

