-- ==== Sys2Proof/Machine/Poller.lean ====
section
/-! DEFINITION. The Readback Poller (chapter 8): triggers and the one-level latch, the building, progress and end of a
round, the commands of the SweepTimer and of the sheet divider, and SWEEP_CONFIG. -/

namespace Sys2Proof.Machine

/-! ### Rounds -/

/-- The groups of a tower that a round lists: PRESENT ones, and ABSENT ones too when `absentToo` (R154). -/
def Tower.pollEntries (w : Tower) (t : TowerIx) (absentToo : Bool) : List PollEntry :=
  if w.setup.enabled then
    (w.groups.filter fun r => absentToo || r.presence == .present).map fun r =>
      { tower := t, group := r.index, node := nodeAddress t r.index, generation := r.generation }
  else []

/-- The poll list of a round, in ascending order of tower and group (R154). -/
def State.buildPollList (s : State) (absentToo : Bool) : List PollEntry :=
  allTowers.flatMap fun t => (s.tower t).pollEntries t absentToo

/-- The number of the next round, wrapping (R154). -/
def nextRound (n : Nat) : Nat := (n + 1) % 65536

/-- A round starts; one whose list is built empty ends at the moment it starts (R154, R155). -/
def State.startRound (s : State) : State :=
  let number := nextRound s.poller.roundNumber
  let list := s.buildPollList (number % Config.absentRounds == 0)
  s.withPoller
    { s.poller with roundNumber := number, roundActive := !list.isEmpty, roundPending := false, pollList := list,
                    cursor := 0, inHand := false }

/-- A trigger given to the Poller: dropped in PASSTHROUGH, otherwise a round, the latch, or SWEEP_OVERRUN (R151, R153). -/
def State.trigger (s : State) : State :=
  match s.press.mode with
  | .passthrough => s
  | .normal =>
    if s.poller.roundActive then
      if s.poller.roundPending then s.raise srcSweepOverrun .none
      else s.withPoller { s.poller with roundPending := true }
    else s.startRound

/-- A poller whose round is over or abandoned: no round, nothing latched, no list (R153, R158, R161). -/
def Poller.withoutRound (p : Poller) : Poller :=
  { p with roundActive := false, roundPending := false, pollList := [], cursor := 0, inHand := false }

/-- The round in progress is abandoned (R153). -/
def State.abandonRound (s : State) : State := s.withPoller s.poller.withoutRound

/-- The end of a round: a latched trigger starts the next one at the same moment (R158). -/
def State.endRound (s : State) : State :=
  if s.poller.roundPending then s.abandonRound.startRound else s.abandonRound

/-- An entry is stale when its tower has no group record at its node, or one under another Generation (R157). -/
def State.stale (s : State) (e : PollEntry) : Bool :=
  match (s.tower e.tower).group? e.group with
  | some r => r.generation != e.generation
  | none => true

/-- The Cursor passes over stale entries until it rests on one that is not stale, or ends the round (R157, R158). -/
def State.passStale (s : State) : State :=
  let cursor := s.poller.cursor + ((s.poller.pollList.drop s.poller.cursor).takeWhile s.stale).length
  if cursor < s.poller.pollList.length then s.withPoller { s.poller with cursor := cursor } else s.endRound

/-- The end of a STATUS_REQUEST transaction reported to the Poller: the Cursor advances and passes stale entries. A
transaction of a round that was abandoned advances nothing (R153, R156). -/
def State.pollEnded (s : State) : State :=
  if s.poller.inHand then
    (s.withPoller { s.poller with cursor := s.poller.cursor + 1, inHand := false }).passStale
  else s

/-- The Poller's part in an accepted TOWER_SETUP: stale entries are passed when none is in hand, and only then is the
forced trigger of an enabling setup taken (R152, R157). -/
def State.pollerAfterSetup (s : State) (enabled : Bool) : State :=
  let passed := if s.poller.roundActive && !s.poller.inHand then s.passStale else s
  if enabled then passed.trigger else passed

/-- The entry at the Cursor, when a round is active (R156). -/
def Poller.current (p : Poller) : Option PollEntry := if p.roundActive then p.pollList[p.cursor]? else none

/-! ### The periodic triggers -/

/-- The SweepTimer's expiry: a pending Interval is loaded, the timer restarts, and the Poller has a trigger (R149). -/
def State.sweepExpired (s : State) : State :=
  match s.poller.sweepTimer with
  | none => s
  | some _ =>
    let interval := s.poller.intervalPending.getD s.poller.interval
    (s.withPoller
      { s.poller with interval := interval, intervalPending := none, sweepTimer := some interval }).trigger

/-- SWEEP_TIMER_EXPIRY (R149): the running SweepTimer expires; a stopped one does not (log 2). -/
def execSweepTimerExpiry (s : State) : Outcome := event s State.sweepExpired

/-- A sheet pulse handed to the Poller (R150). -/
def State.pollerSheet (s : State) : State :=
  match s.poller.source with
  | .timer => s
  | .sheet =>
    let count := s.poller.dividerCount + 1
    if s.poller.divider ≤ count then (s.withPoller { s.poller with dividerCount := 0 }).trigger
    else s.withPoller { s.poller with dividerCount := count }

/-- SHEET_PULSE (R83): SheetCount counts on, wrapping, and the pulse is handed to the Poller. -/
def execSheetPulse (s : State) : Outcome := event s fun s => (s.withSheets (s.sheetCount + 1)).pollerSheet

/-! ### SWEEP_CONFIG -/

/-- The Poller after an accepted SWEEP_CONFIG with its clamped values (R148). -/
def Poller.configured (p : Poller) (source : SweepSource) (interval divider : Nat) : Poller :=
  match p.source, source with
  | .timer, .timer =>
    { p with divider := divider, intervalPending := if interval = p.interval then none else some interval }
  | .sheet, .sheet => { p with interval := interval, divider := divider }
  | .sheet, .timer =>
    { p with source := .timer, interval := interval, divider := divider, intervalPending := none, dividerCount := 0,
             sweepTimer := some interval }
  | .timer, .sheet =>
    { p with source := .sheet, interval := interval, divider := divider, intervalPending := none, dividerCount := 0,
             sweepTimer := none }

/-- The Data of a SWEEP_CONFIG REPLY (R147). -/
def sweepConfigData (p : Poller) : List Byte :=
  sweepSourceCode p.source :: be16 p.interval ++ flagByte p.intervalPending.isSome :: be16 (p.intervalPending.getD 0) ++
    [byteOf p.divider]

/-- The rules of SWEEP_CONFIG (R147, R148). -/
def sweepConfigRules (s : State) (p : List Byte) : Answer :=
  match sweepSourceOf (byteAt p 0) with
  | none => refuse s .badField [0x00]
  | some source =>
    let interval := clampNat 20 2000 (u16At p 1)
    let divider := clampNat 1 64 (byteAt p 3)
    let poller := s.poller.configured source interval divider
    { state := s.withPoller poller,
      result := .ofClamped (interval != u16At p 1 || divider != byteAt p 3),
      data := sweepConfigData poller }

/-- SWEEP_CONFIG (R147, R148). -/
def execSweepConfig (s : State) : Outcome := management .sweepConfig sweepConfigRules s

end Sys2Proof.Machine
end

