-- ==== Sys2Proof/Machine/DriveLine.lean ====
section
/-! DEFINITION. The Drive Line Controller (chapter 7): the arbiter and its four grants, the telegrams it sends, what it
makes of the characters it receives (R7), the end of each kind of transaction, the gap, and the forward queue. -/

namespace Sys2Proof.Machine

/-! ### The arbiter -/

/-- The four requesters (R130). -/
inductive Requester where
  | halt
  | forward
  | sweep
  | move
  deriving DecidableEq, Repr

/-- The Management Handler waits only for a free place to take a telegram (R8, R13). -/
def State.handlerReady (s : State) : Bool :=
  s.handler.hand.isNone && s.handler.restart == .idle && !s.console.inbound.isEmpty

/-- A free place that the oldest forwarded telegram can have: when only one is free and the Management Handler can take a
telegram, the place is the Handler's (R13, R130). R13 does not say whose the next place is when the Handler by then waits
to take another telegram: the last free place is the Handler's each time (DESIGN CHOICE, log 23). -/
def State.forwardPlace (s : State) : Bool :=
  if s.handlerReady then 2 ≤ s.console.freePlaces else 1 ≤ s.console.freePlaces

/-- A tower has an eligible group (R133). -/
def State.towerEligible (s : State) (t : TowerIx) : Bool := (s.tower t).lowestEligible.isSome

/-- Whether a requester is present, judged against the state as it stands (R130). -/
def State.requests (s : State) : Requester → Bool
  | .halt => s.drive.haltPending
  | .forward =>
    match s.drive.forward with
    | [] => false
    | t :: _ => t.dest == Config.broadcastNode || s.forwardPlace
  | .sweep => s.press.mode == .normal && s.poller.current.isSome
  | .move => s.press.hold == .released && s.press.mode == .normal && allTowers.any s.towerEligible

/-- The requester that the arbiter chooses: Halt, then Forward, then Sweep or Move, by Turn when both are present
(R131). -/
def State.chosen (s : State) : Option Requester :=
  if s.requests .halt then some .halt
  else if s.requests .forward then some .forward
  else if s.requests .sweep && s.requests .move then
    match s.drive.turn with
    | .sweep => some .sweep
    | .move => some .move
  else if s.requests .sweep then some .sweep
  else if s.requests .move then some .move
  else none

/-- A grant takes place when the line is FREE and the arbiter chooses the requester (R124, R131); otherwise the step does
not take place (log 2). -/
def State.grant (s : State) (r : Requester) (granted : State → State) : State :=
  if s.drive.line = .free ∧ s.chosen = some r then granted s else s

/-- A telegram started on the drive line (R124). -/
def State.startSending (s : State) (what : Sending) (t : Telegram) : State := s.withLine (.sending what t false)

/-- A telegram that the ZK412 originates on the drive line (R4). -/
def downward (dest kind : Byte) (payload : List Byte) : Telegram := makeTelegram dest Config.ownNode kind payload

/-- The HALT broadcast (R145). -/
def haltTelegram : Telegram := downward Config.broadcastNode Config.kindHalt []

/-- HALT_GRANT (R145): the HALT is started; there is no transaction record. -/
def execHaltGrant (s : State) : Outcome :=
  event s fun s => s.grant .halt fun s => s.startSending .halt haltTelegram

/-- The window of a forward: the destination tower's ReplyWindow while it is enabled, 50 ms otherwise (R125). -/
def State.forwardWindow (s : State) (dest : Byte) : Nat :=
  match nodeParts dest with
  | some (t, _) => if (s.tower t).setup.enabled then (s.tower t).setup.replyWindow else Config.offWindowMs
  | none => Config.offWindowMs

/-- A forward telegram sent: a broadcast has no record and no place, any other a FORWARD record and a reserved place
(R14, R125, R140). -/
def State.sendForward (s : State) (t : Telegram) : State :=
  if t.dest = Config.broadcastNode then s.startSending .broadcast t
  else
    (s.withConsole { s.console with reservedForward := true }).startSending
      (.transaction { dest := t.dest, work := .forward t.kind, window := s.forwardWindow t.dest }) t

/-- The oldest telegram leaves the forward queue and is sent unchanged (R140). -/
def State.grantForward (s : State) : State :=
  match s.drive.forward with
  | [] => s
  | t :: rest => (s.withDrive { s.drive with forward := rest }).sendForward t

/-- FORWARD_GRANT (R140). -/
def execForwardGrant (s : State) : Outcome := event s fun s => s.grant .forward State.grantForward

/-- A STATUS_REQUEST sent to the group at the Cursor, with its record; Turn becomes MOVE (R125, R132, R138). -/
def State.grantSweep (s : State) : State :=
  match s.poller.current with
  | none => s
  | some e =>
    let w := s.tower e.tower
    match w.group? e.group with
    | none => s
    | some r =>
      ((s.withDrive { s.drive with turn := .move }).withPoller { s.poller with inHand := true }).startSending
        (.transaction
          { dest := e.node, work := .status r.generation ((w.groupKeys e.group).map Key.index),
            window := w.setup.replyWindow })
        (downward e.node Config.kindStatusRequest [])

/-- SWEEP_GRANT (R138). -/
def execSweepGrant (s : State) : Outcome := event s fun s => s.grant .sweep State.grantSweep

/-- The batch of a MOVE: the group's PENDING keys in ascending order, each with its Target as it stands (R135). -/
def Tower.moveBatch (w : Tower) (g : GroupIx) : List (Nat × Nat) :=
  (w.groupKeys g).filterMap fun k => if k.state = .pending then k.target.map fun o => (k.index, o) else none

/-- The payload of a MOVE (R5). -/
def movePayload (batch : List (Nat × Nat)) : List Byte :=
  byteOf batch.length :: batch.flatMap fun b => byteOf b.1 :: be16 b.2

/-- A tower removed from its place in the rotation order and appended at the end (R133). -/
def rotate (order : List TowerIx) (t : TowerIx) : List TowerIx := order.erase t ++ [t]

/-- A MOVE to the lowest eligible group of the first tower in the rotation order that has one; Turn becomes SWEEP
(R125, R132, R133, R135). -/
def State.grantMove (s : State) : State :=
  match s.drive.rotation.find? s.towerEligible with
  | none => s
  | some t =>
    let w := s.tower t
    match w.lowestEligible with
    | none => s
    | some g =>
      match w.group? g with
      | none => s
      | some r =>
        let batch := w.moveBatch g
        (s.withDrive { s.drive with turn := .sweep, rotation := rotate s.drive.rotation t }).startSending
          (.transaction
            { dest := nodeAddress t g, work := .move r.generation batch, window := w.setup.replyWindow })
          (downward (nodeAddress t g) Config.kindMove (movePayload batch))

/-- MOVE_GRANT (R135). -/
def execMoveGrant (s : State) : Outcome := event s fun s => s.grant .move State.grantMove

/-! ### The end of sending, and the gap -/

/-- The last check character of a MOVE, STATUS_REQUEST or forwarded telegram has left the line: the window opens, or a
broadcast's gap starts. A telegram that a WARM restart met while it was being sent opens no window (R124, R126, R129). -/
def State.sendComplete (s : State) : State :=
  match s.drive.line with
  | .sending (.transaction r) _ warm => if warm then s.withLine .free else s.withLine (.waiting r r.window)
  | .sending .broadcast _ _ => s.withLine (.gap Config.gapMs)
  | _ => s

/-- DRIVE_SEND_COMPLETE (R124, R126). -/
def execDriveSendComplete (s : State) : Outcome := event s State.sendComplete

/-- The last check character of a HALT has left the line: HaltPending clears and the HALT's effects are applied, unless a
WARM restart met it, and the gap starts (R129, R145). -/
def State.haltComplete (s : State) : State :=
  match s.drive.line with
  | .sending .halt _ warm =>
    let s' := s.withLine (.gap Config.gapMs)
    if warm then s' else (s'.withDrive { s'.drive with haltPending := false }).haltEffects
  | _ => s

/-- HALT_SENT (R145). -/
def execHaltSent (s : State) : Outcome := event s State.haltComplete

/-- The gap's 2 ms have run: the line is FREE (R124). -/
def State.gapOver (s : State) : State :=
  match s.drive.line with
  | .gap _ => s.withLine .free
  | _ => s

/-- GAP_END (R145). -/
def execGapEnd (s : State) : Outcome := event s State.gapOver

/-! ### Reception on the drive line (R7) -/

/-- What R7 makes of the characters received on the drive line. -/
inductive DriveVerdict where
  | discarded
  | moveAccept
  | moveReject (reason : RejectReason)
  | status (isLocal : Bool) (entries : List StatusEntry)
  | forwarded (telegram : Telegram)
  deriving DecidableEq, Repr

/-- The entries of a STATUS payload after its GroupFlags byte; none when a byte is left over. Bits given as 0 are ignored
(R5, R7). -/
def statusEntries : List Byte → Option (List StatusEntry)
  | [] => some []
  | key :: hi :: lo :: rest =>
    (statusEntries rest).map fun es =>
      { key := key.toNat, fault := u16 hi lo / 32768 % 2 == 1, moving := u16 hi lo / 16384 % 2 == 1,
        position := u16 hi lo % 4096 } :: es
  | _ => none

/-- The verdict on a valid telegram for a MOVE transaction (R7). -/
def moveVerdict (t : Telegram) : DriveVerdict :=
  if t.kind = Config.kindMoveAccept ∧ t.payload = [] then .moveAccept
  else if t.kind = Config.kindMoveReject ∧ t.payload = [0x01] then .moveReject .panelLocal
  else if t.kind = Config.kindMoveReject ∧ t.payload = [0x02] then .moveReject .driveBusy
  else .discarded

/-- The verdict on a valid telegram for a STATUS_REQUEST transaction that noted these keys (R7). -/
def statusVerdict (keys : List Nat) (t : Telegram) : DriveVerdict :=
  if t.kind = Config.kindStatus then
    match t.payload with
    | flags :: rest =>
      match statusEntries rest with
      | some es => if es.map StatusEntry.key = keys then .status (flags.toNat % 2 == 1) es else .discarded
      | none => .discarded
    | [] => .discarded
  else .discarded

/-- The verdict on a valid telegram inside the window of a transaction (R7). -/
def telegramVerdict (r : Transaction) (t : Telegram) : DriveVerdict :=
  if t.src = r.dest then
    match r.work with
    | .forward _ => .forwarded t
    | .move _ _ => if t.dest = Config.ownNode then moveVerdict t else .discarded
    | .status _ keys => if t.dest = Config.ownNode then statusVerdict keys t else .discarded
  else .discarded

/-- The verdict on characters received on the drive line: outside a reply window everything is discarded (R7). -/
def driveVerdict (l : Line) (chars : List RxChar) : DriveVerdict :=
  match l, receive chars with
  | .waiting r _, .valid t => telegramVerdict r t
  | _, _ => .discarded

/-- The transaction whose window is open. -/
def Line.window? : Line → Option Transaction
  | .waiting r _ => some r
  | _ => none

/-- The group record that a transaction of the ZK412 is handed on for: the one at the destination node, when its
Generation is the record's (R128). -/
def State.guarded (s : State) (dest : Byte) (generation : Nat) : Option (TowerIx × GroupIx × Group) :=
  match nodeParts dest with
  | none => none
  | some (t, g) =>
    match (s.tower t).group? g with
    | some r => if r.generation = generation then some (t, g, r) else none
    | none => none

/-- A MOVE_ACCEPT taken: handed to the Key Table when the Generation guard passes, and the line FREE (R117, R128,
R136). -/
def State.takeAccept (s : State) (r : Transaction) (generation : Nat) (batch : List (Nat × Nat)) : State :=
  (match s.guarded r.dest generation with
    | some (t, g, _) => (s.withTower t ((s.tower t).applyAccept g batch)).derivePhase t
    | none => s).withLine .free

/-- MOVE_ACCEPT_RECEIVED (R117, R136): the step takes place when R7 takes the characters as a MOVE_ACCEPT. -/
def execMoveAcceptReceived (chars : List RxChar) (s : State) : Outcome :=
  event s fun s =>
    match s.drive.line.window?, driveVerdict s.drive.line chars with
    | some r, .moveAccept =>
      match r.work with
      | .move generation batch => s.takeAccept r generation batch
      | _ => s
    | _, _ => s

/-- A MOVE_REJECT taken: handed to the Key Table when the Generation guard passes, and the line FREE (R118, R128,
R136). -/
def State.takeReject (s : State) (r : Transaction) (generation : Nat) (batch : List (Nat × Nat))
    (reason : RejectReason) : State :=
  (match s.guarded r.dest generation with
    | some (t, g, _) => (s.withTower t ((s.tower t).applyReject g batch reason s.sheetCount)).derivePhase t
    | none => s).withLine .free

/-- MOVE_REJECT_RECEIVED (R118, R136): the step takes place when R7 takes the characters as a MOVE_REJECT. -/
def execMoveRejectReceived (chars : List RxChar) (s : State) : Outcome :=
  event s fun s =>
    match s.drive.line.window?, driveVerdict s.drive.line chars with
    | some r, .moveReject reason =>
      match r.work with
      | .move generation batch => s.takeReject r generation batch reason
      | _ => s
    | _, _ => s

/-- A STATUS taken: handed to the Key Table when the Generation guard passes, the end reported to the Poller in every
case, and the line FREE (R128, R138, R156). -/
def State.takeStatus (s : State) (r : Transaction) (generation : Nat) (isLocal : Bool) (entries : List StatusEntry) :
    State :=
  ((match s.guarded r.dest generation with
    | some (t, g, record) => s.applyStatus t g record isLocal entries
    | none => s).pollEnded).withLine .free

/-- STATUS_RECEIVED (R107, R138): the step takes place when R7 takes the characters as a STATUS. -/
def execStatusReceived (chars : List RxChar) (s : State) : Outcome :=
  event s fun s =>
    match s.drive.line.window?, driveVerdict s.drive.line chars with
    | some r, .status isLocal entries =>
      match r.work with
      | .status generation _ => s.takeStatus r generation isLocal entries
      | _ => s
    | _, _ => s

/-- The end of a forward transaction: while the link is UP the telegram fills the reserved place, while it is LOST the
place is released empty (R14, R141). -/
def State.endForward (s : State) (t : Telegram) : State :=
  let s' := (s.withConsole { s.console with reservedForward := false }).withLine .free
  match s.console.link with
  | .up => s'.send t
  | .lost => s'

/-- FORWARDED_REPLY_RECEIVED (R141): the step takes place when R7 takes the characters as the reply to a forward. -/
def execForwardedReplyReceived (chars : List RxChar) (s : State) : Outcome :=
  event s fun s =>
    match driveVerdict s.drive.line chars with
    | .forwarded t => s.endForward t
    | _ => s

/-- DRIVE_TELEGRAM_DISCARDED (R7): a discard changes no counter, raises nothing and does not end a window. Characters that
R7 takes as a reply make one of the four steps above, not this one (log 6). -/
def execDriveTelegramDiscarded (_chars : List RxChar) (s : State) : Outcome := event s fun s => s

/-! ### Window expiries -/

/-- The expiry of a MOVE's window: the batch is judged, then the expiry counted, when the Generation guard passes (R119,
R137). -/
def State.moveExpired (s : State) : State :=
  match s.drive.line with
  | .waiting { dest, work := .move generation batch, .. } _ =>
    (match s.guarded dest generation with
      | some (t, g, _) => s.applyExpiry t g ((s.tower t).judgeBatch g batch s.sheetCount)
      | none => s).withLine .free
  | _ => s

/-- MOVE_WINDOW_EXPIRY (R137). -/
def execMoveWindowExpiry (s : State) : Outcome := event s State.moveExpired

/-- The expiry of a STATUS_REQUEST's window: counted when the Generation guard passes, and reported to the Poller in every
case (R119, R128, R138). -/
def State.statusExpired (s : State) : State :=
  match s.drive.line with
  | .waiting { dest, work := .status generation _, .. } _ =>
    ((match s.guarded dest generation with
      | some (t, g, _) => s.applyExpiry t g (s.tower t)
      | none => s).pollEnded).withLine .free
  | _ => s

/-- STATUS_WINDOW_EXPIRY (R119, R138). -/
def execStatusWindowExpiry (s : State) : Outcome := event s State.statusExpired

/-- The FORWARD_TIMEOUT telegram: the forwarded Destination, then the forwarded Kind (R14). -/
def forwardTimeoutTelegram (dest kind : Byte) : Telegram := upward Config.kindForwardTimeout [dest, kind]

/-- The expiry of a forward's window (R14, R141). -/
def State.forwardExpired (s : State) : State :=
  match s.drive.line with
  | .waiting { dest, work := .forward kind, .. } _ => s.endForward (forwardTimeoutTelegram dest kind)
  | _ => s

/-- FORWARD_TIMEOUT (R141). -/
def execForwardTimeout (s : State) : Outcome := event s State.forwardExpired

/-! ### MotionTimer -/

/-- The expiry of a group's MotionTimer: its MOVING keys become FAULT, Busy clears, the Phase is derived once (R116). -/
def State.motionExpired (s : State) (t : TowerIx) (g : GroupIx) : State :=
  let w := s.tower t
  match (w.group? g).bind Group.motionTimer with
  | none => s
  | some _ =>
    let w' := w.applyMotionExpiry g
    ((s.withTower t w').raiseAll (newFaults t w.keys w'.keys)).derivePhase t

/-- MOTION_TIMER_EXPIRY (R116): a running MotionTimer expires; a stopped one does not (log 2). -/
def execMotionTimerExpiry (t : TowerIx) (g : GroupIx) (s : State) : Outcome := event s fun s => s.motionExpired t g

/-! ### The forward queue -/

/-- The detail of FWD_OVERFLOW: the tower and group of the refused node, none for broadcast (R139). -/
def forwardDetail (dest : Byte) : Detail :=
  match nodeParts dest with
  | some (t, g) => .group t g
  | none => .none

/-- The REPLY that refuses a forwarded telegram: its Kind echoed, its Destination as Data (R12). -/
def forwardRefusal (r : Result) (t : Telegram) : Telegram := answerTelegram Config.kindReply t.kind r [t.dest]

/-- A telegram in hand offered to the forward queue (R12, R139): discarded while the link is LOST, a MOVE refused while
HOLD is asserted, refused when the queue is full, and appended otherwise. -/
def State.offerForward (s : State) (t : Telegram) : State :=
  if s.console.link = .lost then s.dropHeld
  else if t.kind = Config.kindMove ∧ s.press.hold = .asserted then s.answerHeld (forwardRefusal .holdActive t)
  else if Config.forwardPlaces ≤ s.drive.forward.length then
    (s.answerHeld (forwardRefusal .fwdFull t)).raise srcFwdOverflow (forwardDetail t.dest)
  else s.dropHeld.withDrive { s.drive with forward := s.drive.forward ++ [t] }

/-- The REPLY for a MOVE purged from the forward queue, when a free place exists (R142). -/
def State.purgeReply (s : State) (t : Telegram) : State :=
  if 1 ≤ s.console.freePlaces then s.send (forwardRefusal .holdActive t) else s

/-- Every telegram of Kind MOVE removed from the forward queue, each with its REPLY while places are free (R142). -/
def State.purgeMoves (s : State) : State :=
  let moves := s.drive.forward.filter fun t => t.kind == Config.kindMove
  let rest := s.drive.forward.filter fun t => t.kind != Config.kindMove
  moves.foldl State.purgeReply (s.withDrive { s.drive with forward := rest })

end Sys2Proof.Machine
end

