-- ==== Sys2Proof/Machine/Clock.lean ====
section
/-! DEFINITION. Time: what a step does when no command waits. One millisecond passes, every running timer counts down, and
the expiries that fall due join the queue of commands (DESIGN CHOICE, log 1). -/

namespace Sys2Proof.Machine

/-- A running timer one millisecond later. -/
def tickTimer (timer : Option Nat) : Option Nat := timer.map (· - 1)

/-- A timer that runs and has no time left. -/
def expired (timer : Option Nat) : Bool := timer == some 0

/-- The timers of a tower one millisecond later. -/
def Tower.tick (w : Tower) : Tower :=
  { w with idle := tickTimer w.idle,
           groups := w.groups.map fun r => { r with motionTimer := tickTimer r.motionTimer } }

/-- The reply window and the gap one millisecond later. -/
def Line.tick : Line → Line
  | .waiting r n => .waiting r (n - 1)
  | .gap n => .gap (n - 1)
  | .free => .free
  | .sending what t warm => .sending what t warm

/-- The expiry of the reply window or the gap, when it is due. -/
def Line.expiries : Line → List Instr
  | .gap 0 => [.gapEnd]
  | .waiting r 0 =>
    match r.work with
    | .move _ _ => [.moveWindowExpiry]
    | .status _ _ => [.statusWindowExpiry]
    | .forward _ => [.forwardTimeout]
  | _ => []

/-- The expiries due in a tower: MotionTimers in group order, then the idle timer. -/
def Tower.expiries (w : Tower) (t : TowerIx) : List Instr :=
  ((w.groups.filter fun r => expired r.motionTimer).map fun r => .motionTimerExpiry t r.index) ++
    (if expired w.idle then [.profileIdleExpiry t] else [])

/-- The timers of one tower of the part one millisecond later. -/
def State.tickTower (s : State) (t : TowerIx) : State := s.withTower t (s.tower t).tick

/-- Every timer one millisecond later. -/
def State.countDown (s : State) : State :=
  allTowers.foldl State.tickTower
    { s with
      console := { s.console with silence := tickTimer s.console.silence },
      drive := { s.drive with line := s.drive.line.tick },
      poller := { s.poller with sweepTimer := tickTimer s.poller.sweepTimer } }

/-- The expiries due, in the order in which the model takes those of one millisecond (log 12). -/
def State.expiries (s : State) : List Instr :=
  s.drive.line.expiries ++ (allTowers.flatMap fun t => (s.tower t).expiries t) ++
    (if expired s.poller.sweepTimer then [.sweepTimerExpiry] else []) ++
    (if expired s.console.silence then [.silenceTimerExpiry] else [])

/-- One millisecond passes; while nRESET is asserted no timer runs (R21). -/
def State.tick (s : State) : State :=
  if s.nreset then s else { s.countDown with pending := s.countDown.expiries }

end Sys2Proof.Machine
end

