-- ==== Sys2Proof/Machine/AttentionUnit.lean ====
section
/-! DEFINITION. The Attention Unit's telegrams (chapter 10): ATTENTION_CONFIG and ATTENTION_POLL. Occurrences, notices and
the selection of a source stand with the shared operations. -/

namespace Sys2Proof.Machine

/-- A source record with Priority and Mask set; Pending, MergeCount and Detail are kept (R186). -/
def SourceRecord.configured (r : SourceRecord) (priority : Nat) (mask : Bool) : SourceRecord :=
  { r with priority := priority, mask := mask }

/-- The source made due for a notice (R187). -/
def State.makeDue (s : State) (i : SourceIx) : State :=
  s.withAttention { s.attention with due := s.attention.due ++ [i] }

/-- The MergeCount of a record, 0 while Pending is clear (R181). -/
def SourceRecord.mergeCount (r : SourceRecord) : Nat := (r.pending.map Occurrence.count).getD 0

/-- The rules of ATTENTION_CONFIG (R186, R187): unmasking a pending source makes it due for a notice. -/
def attentionConfigRules (s : State) (p : List Byte) : Answer :=
  match sourceOf (byteAt p 0) with
  | none => refuse s .badField [0x00]
  | some i =>
    if 7 < byteAt p 1 then refuse s .badField [0x01]
    else if 1 < byteAt p 2 then refuse s .badField [0x02]
    else
      let r := s.source i
      let mask := byteAt p 2 == 1
      let stored := s.withSource i (r.configured (byteAt p 1) mask)
      { state := if r.mask && !mask && r.pending.isSome then stored.makeDue i else stored,
        result := .ok,
        data := [byteOf i.val, byteOf (byteAt p 1), flagByte mask, flagByte r.pending.isSome, byteOf r.mergeCount] }

/-- ATTENTION_CONFIG (R186). -/
def execAttentionConfig (s : State) : Outcome := management .attentionConfig attentionConfigRules s

/-- A source cleared; its Priority and Mask are kept (R188). -/
def SourceRecord.cleared (r : SourceRecord) : SourceRecord := { r with pending := none }

/-- The number of sources pending and unmasked (R188). -/
def State.visibleCount (s : State) : Nat := allSources.countP s.visible

/-- The rules of ATTENTION_POLL (R188). -/
def attentionPollRules (s : State) (_ : List Byte) : Answer :=
  match s.selectSource with
  | none => { state := s, result := .ok, data := [0xFF, 0, 0xFF, 0, 0, 0, 0] }
  | some i =>
    match (s.source i).pending with
    | none => { state := s, result := .ok, data := [0xFF, 0, 0xFF, 0, 0, 0, 0] }
    | some o =>
      let cleared := s.withSource i (s.source i).cleared
      { state := cleared, result := .ok,
        data := noticeFields i (s.source i).priority o ++ [byteOf cleared.visibleCount] }

/-- ATTENTION_POLL (R188). -/
def execAttentionPoll (s : State) : Outcome := management .attentionPoll attentionPollRules s

end Sys2Proof.Machine
end

