-- ==== Sys2Proof/Machine/Towers.lean ====
section
/-! DEFINITION. Towers and the Curve Library (chapter 2): TOWER_SETUP, TOWER_TRIM and CURVE_LOAD. -/

namespace Sys2Proof.Machine

/-- A number lies in a range, ends included. -/
def inRange (lo hi n : Nat) : Bool := lo ≤ n && n ≤ hi

/-- A signed number lies in a range, ends included. -/
def inRangeInt (lo hi i : Int) : Bool := lo ≤ i && i ≤ hi

/-- The number of the first field that fails its check, in the order of the list. -/
def firstFailing (checks : List (Nat × Bool)) : Option Nat := (checks.find? fun c => !c.2).map Prod.fst

/-! ### TOWER_SETUP -/

/-- The setup fields as TOWER_SETUP carries them (Table 2-1). -/
def setupOf (p : List Byte) : Setup :=
  { enabled := byteAt p 1 == 1, keyCount := byteAt p 2, keyPitch := u16At p 3, plateOffset := s16At p 5,
    curveId := (curveOf (byteAt p 7)).getD 0, minOpening := u16At p 8, tolerance := byteAt p 10,
    replyWindow := byteAt p 11, motionLimit := byteAt p 12, gain := u16At p 13, deadBand := byteAt p 15,
    stepLimit := u16At p 16, corrLimit := u16At p 18, lagSheets := byteAt p 20, sweep := byteAt p 21,
    towerTrim := byteAt p 22 }

/-- The two-step check of CurveId: in range, and naming a LOADED curve when the setup enables the tower (R22). -/
def State.curveIdOk (s : State) (enabled curveId : Nat) : Bool :=
  match curveOf curveId with
  | some i => enabled != 1 || (s.curve i).isSome
  | none => false

/-- The checks of TOWER_SETUP in the order of Table 2-1, each with its field number (R22). -/
def State.setupChecks (s : State) (p : List Byte) : List (Nat × Bool) :=
  [(0, inRange 0 11 (byteAt p 0)), (1, inRange 0 1 (byteAt p 1)), (2, inRange 8 48 (byteAt p 2)),
    (3, inRange 200 600 (u16At p 3)), (4, inRangeInt (-2000) 2000 (s16At p 5)),
    (5, s.curveIdOk (byteAt p 1) (byteAt p 7)), (6, inRange 0 400 (u16At p 8)), (7, inRange 2 40 (byteAt p 10)),
    (8, inRange 1 50 (byteAt p 11)), (9, inRange 1 30 (byteAt p 12)), (10, inRange 0 400 (u16At p 13)),
    (11, inRange 0 50 (byteAt p 15)), (12, inRange 0 400 (u16At p 16)), (13, inRange 0 1000 (u16At p 18)),
    (14, inRange 0 255 (byteAt p 20)), (15, inRange 20 100 (byteAt p 21)), (16, inRange 50 200 (byteAt p 22))]

/-- The key records of a setup: KeyCount of them, in key order (R24). -/
def freshKeys (keyCount : Nat) : List Key := (List.range keyCount).map fun i => Key.fresh (i + 1)

/-- The group records of a setup, in group order (R24). -/
def freshGroups (keyCount generation : Nat) : List Group :=
  (allGroups.filter fun g => g.val < groupCount keyCount).map (Group.fresh generation)

/-- The tower that an accepted setup leaves: everything replaced, its Generation one greater, its profiles EMPTY (R23, R24,
R26). -/
def Tower.rebuilt (w : Tower) (u : Setup) : Tower :=
  let generation := nextGeneration w.generation
  { setup := u, generation := generation, phase := w.phase, staged := none, active := none, idle := none,
    keys := if u.enabled then freshKeys u.keyCount else [],
    groups := if u.enabled then freshGroups u.keyCount generation else [] }

/-- The rules of TOWER_SETUP (R22 to R26, R152, R157). -/
def towerSetupRules (s : State) (p : List Byte) : Answer :=
  match firstFailing (s.setupChecks p), towerOf (byteAt p 0) with
  | none, some t =>
    let u := setupOf p
    let w := (s.tower t).rebuilt u
    { state := ((s.withTower t w).derivePhase t).pollerAfterSetup u.enabled,
      result := .ok, data := [byteOf t.val, byteOf w.generation] }
  | some field, _ => refuse s .badField [byteOf field]
  | none, none => refuse s .badField [0]

/-- TOWER_SETUP (R23). -/
def execTowerSetup (s : State) : Outcome := management .towerSetup towerSetupRules s

/-! ### TOWER_TRIM -/

/-- The rules of TOWER_TRIM (R27, R28): a recompute only when a stored value changed. -/
def towerTrimRules (s : State) (p : List Byte) : Answer :=
  match towerOf (byteAt p 0) with
  | none => refuse s .badField [byteOf (byteAt p 0)]
  | some t =>
    let w := s.tower t
    if w.setup.enabled then
      let sweep := clampNat 20 100 (byteAt p 1)
      let trim := clampNat 50 200 (byteAt p 2)
      let stored := s.withTower t { w with setup := { w.setup with sweep := sweep, towerTrim := trim } }
      { state := if sweep = w.setup.sweep ∧ trim = w.setup.towerTrim then s else stored.recomputeTower t,
        result := .ofClamped (sweep != byteAt p 1 || trim != byteAt p 2),
        data := [byteOf t.val, byteOf sweep, byteOf trim] }
    else refuse s .towerOff [byteOf t.val]

/-- TOWER_TRIM (R28). -/
def execTowerTrim (s : State) : Outcome := management .towerTrim towerTrimRules s

/-! ### CURVE_LOAD -/

/-- The points of a CURVE_LOAD, four bytes each (R32). -/
def pointsOf : List Byte → List Point
  | c1 :: c0 :: o1 :: o0 :: rest => { coverage := u16 c1 c0, opening := u16 o1 o0 } :: pointsOf rest
  | _ => []

/-- The index of the first failing point: `previous` is the Coverage of the point before, none for point 0 (R33). -/
def badPoint (index : Nat) (previous : Option Nat) : List Point → Option Nat
  | [] => none
  | p :: ps =>
    let startOk := match previous with
      | none => p.coverage == 0
      | some c => c < p.coverage
    let endOk := !ps.isEmpty || p.coverage == 1000
    if startOk && endOk && p.opening ≤ Config.fullTravel then badPoint (index + 1) (some p.coverage) ps
    else some index

/-- The towers that a reload of a curve recomputes: enabled, with this CurveId (R34). -/
def State.curveUsers (s : State) (i : CurveIx) : List TowerIx :=
  allTowers.filter fun t => (s.tower t).setup.enabled && (s.tower t).setup.curveId == i

/-- A tower mask with the bits of the listed towers set (R34). -/
def towerMask (ts : List TowerIx) : Nat := bitsOf (allTowers.map fun t => ts.contains t)

/-- The rules of CURVE_LOAD (R32 to R35). -/
def curveLoadRules (s : State) (p : List Byte) : Answer :=
  match curveOf (byteAt p 0) with
  | none => refuse s .badField [0xFF]
  | some i =>
    if inRange 20 100 (byteAt p 1) then
      let points := pointsOf (p.drop 2)
      match badPoint 0 none points with
      | some index => refuse s .badField [byteOf index]
      | none =>
        let users := s.curveUsers i
        { state := users.foldl State.recomputeTower (s.withCurve i (some { refSweep := byteAt p 1, points := points })),
          result := .ok, data := byteOf i.val :: be16 (towerMask users) }
    else refuse s .badField [0xFE]

/-- CURVE_LOAD (R34). -/
def execCurveLoad (s : State) : Outcome := management .curveLoad curveLoadRules s

end Sys2Proof.Machine
end

