-- ==== Sys2Proof/Machine/Feedback.lean ====
section
/-! DEFINITION. Trims, density feedback and fault clearing (chapters 5 and 6): KEY_TRIM, DENSITY_REPORT and FAULT_CLEAR. -/

namespace Sys2Proof.Machine

/-- A run of `n` keys from FirstKey lies within 1..KeyCount (R86, R89). -/
def keyRangeOk (first n keyCount : Nat) : Bool := first != 0 && first + n - 1 ≤ keyCount

/-- The value of a run for a key, when the run names the key: value i applies to key FirstKey + i (R86, R89). -/
def runValue (first : Nat) (values : List Int) (k : Key) : Option Int :=
  if first ≤ k.index then values[k.index - first]? else none

/-! ### KEY_TRIM -/

/-- The exact result of a trim before it is clamped (R87). -/
def trimResult (relative : Bool) (k : Key) (v : Int) : Int := if relative then k.keyTrim + v else v

/-- A KeyTrim clamped to its range (R87). -/
def clampTrim (i : Int) : Int := clampInt (-Config.trimLimit) Config.trimLimit i

/-- A key with the trim that the telegram carries for it (R87). -/
def Key.trimmed (k : Key) (relative : Bool) (v : Option Int) : Key :=
  match v with
  | some v => { k with keyTrim := clampTrim (trimResult relative k v) }
  | none => k

/-- A key whose result was clamped (R87). -/
def Key.trimClamped (k : Key) (relative : Bool) (v : Option Int) : Bool :=
  match v with
  | some v => clampTrim (trimResult relative k v) != trimResult relative k v
  | none => false

/-- The rules of KEY_TRIM (R86 to R88): all values are written, then each named key is recomputed, and the Phase is derived
once. -/
def keyTrimRules (s : State) (p : List Byte) : Answer :=
  match towerOf (byteAt p 0) with
  | none => refuse s .badField [0x00]
  | some t =>
    let w := s.tower t
    let first := byteAt p 2
    let values := s16Run (p.drop 3)
    let relative := byteAt p 1 == 1
    if w.setup.enabled = false then refuse s .towerOff [byteOf t.val]
    else if 1 < byteAt p 1 then refuse s .badField [0x01]
    else if keyRangeOk first values.length w.setup.keyCount = false then refuse s .badField [0x02]
    else
      let clamped := w.keys.countP fun k => k.trimClamped relative (runValue first values k)
      let written :=
        s.withTower t { w with keys := w.keys.map fun k => k.trimmed relative (runValue first values k) }
      { state := (written.recomputeKeys t fun k => (runValue first values k).isSome).derivePhase t,
        result := .ofClamped (0 < clamped),
        data := [byteOf t.val, byteOf first, byteOf values.length, byteOf clamped] }

/-- KEY_TRIM (R87). -/
def execKeyTrim (s : State) : Outcome := management .keyTrim keyTrimRules s

/-! ### DENSITY_REPORT -/

/-- What a report does at one key: the skip reasons of R91, or the outcome of the correction (R95). -/
inductive DensityOutcome where
  | noMeasure
  | noTarget
  | notSettled
  | lag
  | deadBand
  | unchanged
  | changed (corr : Int)
  deriving DecidableEq, Repr

/-- A deviation clamped to −200..+200; the marker is not clamped (R90). -/
def clampDeviation (d : Int) : Int :=
  if d = Config.noMeasurement then d else clampInt (-Config.deviationLimit) Config.deviationLimit d

/-- The increment after rounding and the step limit (R93). -/
def limitedIncrement (u : Setup) (deviation : Int) : Int :=
  clampInt (-(u.stepLimit : Int)) u.stepLimit (roundAway (-(deviation * u.gain)) 10)

/-- Anti-windup: no increment that would push a clamped key further into its clamp (R94). -/
def antiWindup (saturation : Saturation) (increment : Int) : Int :=
  match saturation with
  | .high => if 0 < increment then 0 else increment
  | .low => if increment < 0 then 0 else increment
  | .none => increment
  | .closed => increment

/-- The new Corr of a corrected key (R95). -/
def correctedCorr (u : Setup) (saturation : Saturation) (corr deviation : Int) : Int :=
  clampInt (-(u.corrLimit : Int)) u.corrLimit (corr + antiWindup saturation (limitedIncrement u deviation))

/-- A key has settled fewer than LagSheets sheets ago, the difference taken modulo 2^32. A SETTLED key always notes its
sheet; one without, which no run reaches, is taken as lagging (R84, R91, R92; log 13). -/
def Key.lagging (k : Key) (sheets : Sheets) (lagSheets : Nat) : Bool :=
  match k.settledAt with
  | some at' => (sheets - at').toNat < lagSheets
  | none => true

/-- The gating of R91 in its order, and the correction of a key that meets none of its conditions (R91, R95). The deviation
is the clamped one. -/
def Key.density (k : Key) (u : Setup) (sheets : Sheets) (deviation : Int) : DensityOutcome :=
  if deviation = Config.noMeasurement then .noMeasure
  else
    match k.computed with
    | none => .noTarget
    | some c =>
      if c.saturation = .closed then .noTarget
      else if k.state ≠ .settled then .notSettled
      else if k.lagging sheets u.lagSheets then .lag
      else if deviation.natAbs ≤ u.deadBand then .deadBand
      else if correctedCorr u c.saturation k.corr deviation = k.corr then .unchanged
      else .changed (correctedCorr u c.saturation k.corr deviation)

/-- A key with the Corr that the report writes (R95). -/
def Key.corrected (k : Key) : Option DensityOutcome → Key
  | some (.changed corr) => { k with corr := corr }
  | _ => k

/-- A written Corr that reaches its limit (R96). -/
def DensityOutcome.atLimit (corrLimit : Nat) : DensityOutcome → Bool
  | .changed corr => corr.natAbs == corrLimit
  | _ => false

/-- The key's Corr is written. -/
def DensityOutcome.isChanged : DensityOutcome → Bool
  | .changed _ => true
  | _ => false

/-- The outcome of a report at a key, when the report names the key. -/
def densityAt (u : Setup) (sheets : Sheets) (first : Nat) (deviations : List Int) (k : Key) : Option DensityOutcome :=
  (runValue first deviations k).map fun d => k.density u sheets (clampDeviation d)

/-- The Data of a DENSITY_REPORT REPLY (R98). -/
def densityData (t : TowerIx) (first : Nat) (deviations : List Int) (corrLimit : Nat) (os : List DensityOutcome) :
    List Byte :=
  let count := fun o => byteOf (os.count o)
  [byteOf t.val, byteOf first, byteOf deviations.length, byteOf (os.countP DensityOutcome.isChanged),
    byteOf (deviations.countP fun d => clampDeviation d != d), byteOf (os.countP (DensityOutcome.atLimit corrLimit)),
    count .noMeasure, count .noTarget, count .notSettled, count .lag, count .deadBand, count .unchanged]

/-- The effects of an accepted report on its tower: each changed key written and recomputed, CORR_LIMIT for each that
reached its limit in ascending key order, and the Phase derived once (R91 to R97). -/
def State.applyReport (s : State) (t : TowerIx) (at' : Key → Option DensityOutcome) : State :=
  let w := s.tower t
  let changed := fun k => ((at' k).map DensityOutcome.isChanged).getD false
  let recomputed :=
    s.withTower t
      { w with keys := w.keys.map fun k => if changed k then s.recomputedKey t (k.corrected (at' k)) else k }
  let limits := w.keys.filter fun k => ((at' k).map (DensityOutcome.atLimit w.setup.corrLimit)).getD false
  (recomputed.raiseAll (limits.map fun k => (srcCorrLimit, .key t k.index))).derivePhase t

/-- The rules of DENSITY_REPORT (R89 to R98). -/
def densityReportRules (s : State) (p : List Byte) : Answer :=
  match towerOf (byteAt p 0) with
  | none => refuse s .badField [0x00]
  | some t =>
    let w := s.tower t
    let first := byteAt p 1
    let deviations := s16Run (p.drop 2)
    if s.press.state ≠ .printing then refuse s .notPrinting []
    else if w.setup.enabled = false then refuse s .towerOff [byteOf t.val]
    else if keyRangeOk first deviations.length w.setup.keyCount = false then refuse s .badField [0x01]
    else
      let at' := densityAt w.setup s.sheetCount first deviations
      { state := s.applyReport t at',
        result := .ofClamped (deviations.any fun d => clampDeviation d != d),
        data := densityData t first deviations w.setup.corrLimit (w.keys.filterMap at') }

/-- DENSITY_REPORT (R91). -/
def execDensityReport (s : State) : Outcome := management .densityReport densityReportRules s

/-! ### FAULT_CLEAR -/

/-- A key lies in the scope of a FAULT_CLEAR: the named group, or every group for 0xFF (R113). -/
def clearScope (group : Nat) (k : Key) : Bool := group == 0xFF || k.group == group

/-- A FAULT key cleared: PENDING, or HELD without a Target, with RetryCount 0 (R113). -/
def Key.cleared (k : Key) : Key :=
  { k with state := if k.computed.isSome then .pending else .held, retry := 0 }

/-- The rules of FAULT_CLEAR (R112, R113). -/
def faultClearRules (s : State) (p : List Byte) : Answer :=
  match towerOf (byteAt p 0) with
  | none => refuse s .badField [0x00]
  | some t =>
    let w := s.tower t
    let group := byteAt p 1
    if w.setup.enabled = false then refuse s .towerOff [byteOf t.val]
    else if group ≠ 0xFF ∧ groupCount w.setup.keyCount ≤ group then refuse s .badField [0x01]
    else
      let hit := fun k : Key => clearScope group k && k.state == .fault
      { state := (s.withTower t { w with keys := w.keys.map fun k => if hit k then k.cleared else k }).derivePhase t,
        result := .ok, data := [byteOf t.val, byteOf group, byteOf (w.keys.countP hit)] }

/-- FAULT_CLEAR (R113). -/
def execFaultClear (s : State) : Outcome := management .faultClear faultClearRules s

end Sys2Proof.Machine
end

