-- ==== Sys2Proof/Machine/Press.lean ====
section
/-! DEFINITION. The Press Interface (chapter 9): PRESS_STATE, MODE, and the assertion and release of HOLD. -/

namespace Sys2Proof.Machine

/-- The rules of PRESS_STATE: every transition is permitted, and the REPLY tells the state before and after (R165). -/
def pressStateRules (s : State) (p : List Byte) : Answer :=
  match pressOf (byteAt p 0) with
  | none => refuse s .badField [0x00]
  | some new =>
    { state := s.withPress { s.press with state := new }, result := .ok, data := [pressCode s.press.state, pressCode new] }

/-- PRESS_STATE (R165). -/
def execPressState (s : State) : Outcome := management .pressState pressStateRules s

/-- The entry into PASSTHROUGH: the keys and groups of every enabled tower, and the round abandoned (R153, R174, R175). -/
def State.enterPassthrough (s : State) : State :=
  (allTowers.foldl State.passthroughTower (s.withPress { s.press with mode := .passthrough })).abandonRound

/-- The return to NORMAL: a forced trigger, which starts a round at once (R177). -/
def State.returnToNormal (s : State) : State := (s.withPress { s.press with mode := .normal }).trigger

/-- A change of Mode; the Mode in force has no effect (R173). -/
def State.changeMode (s : State) (new : Mode) : State :=
  match s.press.mode, new with
  | .normal, .passthrough => s.enterPassthrough
  | .passthrough, .normal => s.returnToNormal
  | .normal, .normal => s
  | .passthrough, .passthrough => s

/-- The rules of MODE (R173). -/
def modeRules (s : State) (p : List Byte) : Answer :=
  match modeOf (byteAt p 0) with
  | none => refuse s .badField [0x00]
  | some new => { state := s.changeMode new, result := .ok, data := [modeCode new] }

/-- MODE (R173). -/
def execMode (s : State) : Outcome := management .mode modeRules s

/-- An assertion of HOLD, in the order of R168; one is never taken while Hold is ASSERTED (R167). -/
def State.holdAsserted (s : State) : State :=
  match s.press.hold with
  | .asserted => s
  | .released =>
    let held := s.withPress { s.press with hold := .asserted }
    let halting := held.withDrive { held.drive with haltPending := true }
    halting.purgeMoves.raise srcHoldChange (.level .asserted)

/-- HOLD_ASSERT (R168): the input has stood high for 1 ms. -/
def execHoldAssert (s : State) : Outcome := event s State.holdAsserted

/-- A release of HOLD, which leaves HaltPending as it is; one is never taken while Hold is RELEASED (R167, R170). -/
def State.holdReleased (s : State) : State :=
  match s.press.hold with
  | .released => s
  | .asserted => (s.withPress { s.press with hold := .released }).raise srcHoldChange (.level .released)

/-- HOLD_RELEASE (R170): the input has stood low for 1 ms. -/
def execHoldRelease (s : State) : Outcome := event s State.holdReleased

end Sys2Proof.Machine
end

