-- ==== Sys2Proof/Machine/Profiles.lean ====
section
/-! DEFINITION. Coverage profiles and job change (chapter 3): PROFILE_BEGIN, PROFILE_ZONES, PROFILE_END, the idle timer's
expiry, and JOB_COMMIT. -/

namespace Sys2Proof.Machine

/-! ### PROFILE_BEGIN -/

/-- The checks of PROFILE_BEGIN after the tower, in the order of Table 3-2 (R42). -/
def beginChecks (p : List Byte) : List (Nat × Bool) :=
  [(1, inRange 0 1 (byteAt p 1)), (2, inRange 1 65535 (u16At p 2)), (3, inRange 1 96 (byteAt p 4)),
    (4, inRange 50 600 (u16At p 5)), (5, inRangeInt (-3000) 3000 (s16At p 7)), (6, inRange 0 16000 (u16At p 9)),
    (7, inRange 0 16000 (u16At p 11) && u16At p 9 < u16At p 11)]

/-- The header that a PROFILE_BEGIN carries, with the given zone values (R45). -/
def beginBody (p : List Byte) (mode : LoadMode) (zones : List Nat) : ProfileBody :=
  { mode := mode, job := u16At p 2, zoneCount := byteAt p 4, zonePitch := u16At p 5, zoneOrigin := s16At p 7,
    sheetLeft := u16At p 9, sheetRight := u16At p 11, zones := zones, clampedCount := 0, overrunCount := 0 }

/-- A load opened on a tower: LOADING, no zone marked, LoadPointer 0, the idle timer started (R45). -/
def Tower.openLoad (w : Tower) (body : ProfileBody) : Tower :=
  { w with staged := some { status := .loading, body := body, written := List.replicate body.zoneCount false,
                            pointer := 0 },
           idle := some Config.idleMs }

/-- A tower whose load is open. -/
def Tower.loading (w : Tower) : Option Staged :=
  match w.staged with
  | some p => if p.status = .loading then some p else none
  | none => none

/-- An open load closed as PARTIAL by a break or an idle expiry: values, marks, LoadPointer and counters kept, the idle
timer stopped (R43, R53). -/
def Tower.closePartial (w : Tower) : Tower :=
  { w with staged := w.staged.map fun p => { p with status := .incomplete }, idle := none }

/-- An open load of a tower broken or timed out, PROFILE_PARTIAL raised; nothing when no load is open (R43, R53). -/
def State.breakLoad (s : State) (t : TowerIx) : State :=
  match (s.tower t).loading with
  | some _ => (s.withTower t (s.tower t).closePartial).raise srcProfilePartial (.tower t)
  | none => s

/-- The judgement of a Begin against the Staged profile as the break left it (R44): the refusal, or the zone values that
the load starts from. -/
def judgeBegin (staged : Option Staged) (p : List Byte) (mode : LoadMode) : Except Result (List Nat) :=
  match mode with
  | .full => .ok (List.replicate (byteAt p 4) 0)
  | .delta =>
    match staged with
    | none => .error .notComplete
    | some q =>
      if q.status ≠ .complete then .error .notComplete
      else if q.body.zoneCount = byteAt p 4 ∧ q.body.zonePitch = u16At p 5 ∧ q.body.zoneOrigin = s16At p 7 then
        .ok q.body.zones
      else .error .geometryMismatch

/-- The rules of PROFILE_BEGIN (R42 to R45). -/
def profileBeginRules (s : State) (p : List Byte) : Answer :=
  match towerOf (byteAt p 0) with
  | none => refuse s .badField [0]
  | some t =>
    if (s.tower t).setup.enabled then
      match firstFailing (beginChecks p), loadModeOf (byteAt p 1) with
      | none, some mode =>
        let broken := s.breakLoad t
        match judgeBegin (broken.tower t).staged p mode with
        | .error r => refuse broken r [byteOf t.val]
        | .ok zones =>
          { state := broken.withTower t ((broken.tower t).openLoad (beginBody p mode zones)), result := .ok,
            data := [byteOf t.val] }
      | some field, _ => refuse s .badField [byteOf field]
      | none, none => refuse s .badField [1]
    else refuse s .towerOff [byteOf t.val]

/-- PROFILE_BEGIN (R45). -/
def execProfileBegin (s : State) : Outcome := management .profileBegin profileBeginRules s

/-! ### PROFILE_ZONES -/

/-- A load with the counts of the telegram being placed (R48 to R50). -/
structure Placing where
  staged : Staged
  stored : Nat
  overrun : Nat
  clamped : Nat
  deriving DecidableEq, Repr

/-- A value stored in the zone at LoadPointer, which advances (R48). -/
def Staged.store (q : Staged) (v : Nat) : Staged :=
  { q with body := { q.body with zones := q.body.zones.set q.pointer v }, written := q.written.set q.pointer true,
           pointer := q.pointer + 1 }

/-- One value taken in payload order (R48, R49). -/
def Placing.place (a : Placing) (v : Nat) : Placing :=
  let q := a.staged
  if q.body.zoneCount ≤ q.pointer then
    { a with staged := { q with body := { q.body with overrunCount := satAdd q.body.overrunCount } },
             overrun := a.overrun + 1 }
  else if v = Config.skipMarker then { a with staged := { q with pointer := q.pointer + 1 } }
  else if v ≤ 1000 then { a with staged := q.store v, stored := a.stored + 1 }
  else
    { a with staged := { q with body := { q.body with clampedCount := satAdd q.body.clampedCount } }.store 1000,
             stored := a.stored + 1, clamped := a.clamped + 1 }

/-- The values of a telegram placed from the zone that the segment names, or from LoadPointer (R47 to R49). -/
def placeZones (q : Staged) (start : Option Nat) (values : List Nat) : Placing :=
  values.foldl Placing.place
    { staged := { q with pointer := start.getD q.pointer }, stored := 0, overrun := 0, clamped := 0 }

/-- The rules of PROFILE_ZONES (R46 to R50). -/
def profileZonesRules (s : State) (p : List Byte) : Answer :=
  match towerOf (byteAt p 0) with
  | none => refuse s .badField [0x00]
  | some t =>
    if 1 < byteAt p 1 then refuse s .badField [0x01]
    else
      match (s.tower t).loading with
      | none => refuse s .notLoading [byteOf t.val]
      | some q =>
        if byteAt p 1 = 1 ∧ q.body.zoneCount ≤ byteAt p 2 then refuse s .badField [0x02]
        else
          let a := placeZones q (if byteAt p 1 = 1 then some (byteAt p 2) else none) (u16Run (p.drop 3))
          let placed := s.withTower t { s.tower t with staged := some a.staged, idle := some Config.idleMs }
          { state := if 0 < a.overrun then placed.raise srcZoneOverrun (.tower t) else placed,
            result := .ofClamped (0 < a.clamped),
            data := [byteOf t.val, byteOf a.staged.pointer, byteOf a.stored, byteOf a.overrun] }

/-- PROFILE_ZONES (R47). -/
def execProfileZones (s : State) : Outcome := management .profileZones profileZonesRules s

/-! ### PROFILE_END and the idle timer -/

/-- The status that PROFILE_END gives: COMPLETE for a delta load or when every zone is marked, PARTIAL otherwise (R51). -/
def Staged.endStatus (q : Staged) : StagedStatus :=
  match q.body.mode with
  | .delta => .complete
  | .full => if q.written.all id then .complete else .incomplete

/-- The rules of PROFILE_END (R51). -/
def profileEndRules (s : State) (p : List Byte) : Answer :=
  match towerOf (byteAt p 0) with
  | none => refuse s .badField [0x00]
  | some t =>
    match (s.tower t).loading with
    | none => refuse s .notLoading [byteOf t.val]
    | some q =>
      let q' := { q with status := q.endStatus }
      let closed := s.withTower t { s.tower t with staged := some q', idle := none }
      { state := if q'.status = .incomplete then closed.raise srcProfilePartial (.tower t) else closed,
        result := .ok, data := [byteOf t.val, stagedCode (some q'), byteOf (q.written.count true)] }

/-- PROFILE_END (R51). -/
def execProfileEnd (s : State) : Outcome := management .profileEnd profileEndRules s

/-- PROFILE_IDLE_EXPIRY (R53): the idle timer runs while the tower's Staged profile is LOADING (R52). -/
def execProfileIdleExpiry (t : TowerIx) (s : State) : Outcome := event s fun s => s.breakLoad t

/-! ### JOB_COMMIT -/

/-- The towers of a mask in ascending order. -/
def maskTowers (mask : Nat) : List TowerIx := allTowers.filter fun t => mask.testBit t.val

/-- The first check that a tower of the mask fails (R57). -/
def Tower.commitFault (w : Tower) (job : Nat) (force : Bool) : Option Result :=
  if w.setup.enabled = false then some .towerOff
  else
    match w.staged with
    | none => some .notComplete
    | some q =>
      if q.status = .loading ∨ (q.status = .incomplete ∧ force = false) then some .notComplete
      else if q.body.job = job then none
      else some .jobMismatch

/-- The first tower of the mask that fails a check, with its result (R57). -/
def State.commitRefusal (s : State) (ts : List TowerIx) (job : Nat) (force : Bool) : Option (TowerIx × Result) :=
  ts.findSome? fun t => ((s.tower t).commitFault job force).map fun r => (t, r)

/-- The Active profile that a commit copies from the Staged one (R58). -/
def Staged.activated (q : Staged) : Active := { complete := q.status == .complete, body := q.body }

/-- A tower with its Staged profile made active and its offsets cleared, before the recompute (R58, R59). -/
def Tower.committed (w : Tower) (keepTrims : Bool) : Tower :=
  { w with active := w.staged.map Staged.activated, staged := none,
           keys := w.keys.map fun k => { k with corr := 0, keyTrim := if keepTrims then k.keyTrim else 0 } }

/-- Every SETTLED key notes the present SheetCount (R59). -/
def Tower.stampSettled (w : Tower) (sheets : Sheets) : Tower :=
  { w with keys := w.keys.map fun k => if k.state = .settled then { k with settledAt := some sheets } else k }

/-- The effects of a commit on one tower (R58, R59). RetryCount is kept but for a key that enters SETTLED (R104; log 24). -/
def State.commitTower (keepTrims : Bool) (s : State) (t : TowerIx) : State :=
  let computed := (s.withTower t ((s.tower t).committed keepTrims)).recomputeKeys t fun _ => true
  (computed.withTower t ((computed.tower t).stampSettled s.sheetCount)).derivePhase t

/-- The rules of JOB_COMMIT (R55 to R60). -/
def jobCommitRules (s : State) (p : List Byte) : Answer :=
  let mask := u16At p 0
  let flags := byteAt p 4
  if mask = 0 ∨ 4096 ≤ mask then refuse s .badField [0x00]
  else if u16At p 2 = 0 then refuse s .badField [0x01]
  else if 4 ≤ flags then refuse s .badField [0x02]
  else if s.press.state = .printing then refuse s .pressPrinting []
  else
    match s.commitRefusal (maskTowers mask) (u16At p 2) (flags.testBit 1) with
    | some (t, r) => refuse s r [byteOf t.val]
    | none =>
      { state := (maskTowers mask).foldl (State.commitTower (flags.testBit 0)) s, result := .ok, data := be16 mask }

/-- JOB_COMMIT (R58). -/
def execJobCommit (s : State) : Outcome := management .jobCommit jobCommitRules s

end Sys2Proof.Machine
end

