-- ==== Sys2Proof/Machine/Queries.lean ====
section
/-! DEFINITION. QUERY (section 10.5): the checks of R191, and the snapshot of each target. A query changes no item of
state; its answer joins the transmit queue like any other. -/

namespace Sys2Proof.Machine

/-- A snapshot, or the refusal of the target's own checks. -/
abbrev Snapshot := Except Result (List Byte)

/-- The execution of a QUERY in hand that names the target: the general length check, the target's length, its own checks
(R10, R191). A refusal has empty Data (R11). -/
def executeQuery (target : Target) (snapshot : State → List Byte → Snapshot) (s : State) : State :=
  match s.handler.hand with
  | some t =>
    if t.kind = Kind.query.code ∧ t.payload.head? = some target.code then
      if t.payload.length = target.length then
        match snapshot s t.payload with
        | .ok data => s.answerHeld (answerTelegram Config.kindQueryData t.kind .ok data)
        | .error r => s.answerHeld (answerTelegram Config.kindQueryData t.kind r [])
      else s.answerHeld (answerTelegram Config.kindQueryData t.kind .badLength [])
    else s
  | none => s

/-- The command of a query target; the step does not take place for another telegram in hand (log 2). -/
def query (target : Target) (snapshot : State → List Byte → Snapshot) (s : State) : Outcome :=
  event s (executeQuery target snapshot)

/-! ### DEVICE (R192) -/

/-- The pairs of a list of priorities as bytes, the even source in bits 7..4 (R192). -/
def priorityBytes : List Nat → List Byte
  | a :: b :: rest => byteOf (a * 16 + b) :: priorityBytes rest
  | _ => []

/-- The snapshot of DEVICE (R192). -/
def deviceSnapshot (s : State) (_ : List Byte) : Snapshot :=
  .ok
    (be16 Config.partCode ++
      [byteOf Config.revision, pressCode s.press.state, modeCode s.press.mode, holdCode s.press.hold,
        flagByte s.drive.haltPending, linkCode s.console.link] ++
      be32 s.sheetCount.toNat ++ [sweepSourceCode s.poller.source] ++ be16 s.poller.interval ++
      [flagByte s.poller.intervalPending.isSome] ++ be16 (s.poller.intervalPending.getD 0) ++
      [byteOf s.poller.divider] ++ be16 s.poller.roundNumber ++
      [byteOf (bitsOf [s.poller.roundActive, s.poller.roundPending]), turnCode s.drive.turn] ++
      s.drive.rotation.map (fun t => byteOf t.val) ++
      be16 (bitsOf (allSources.map fun i => (s.source i).pending.isSome)) ++
      be16 (bitsOf (allSources.map fun i => (s.source i).mask)) ++
      priorityBytes (allSources.map fun i => (s.source i).priority) ++
      [byteOf (bitsOf ((allTowers.take 8).map fun t => (s.tower t).setup.enabled))])

/-- QUERY_DEVICE (R192). -/
def execQueryDevice (s : State) : Outcome := query .device deviceSnapshot s

/-! ### TOWER (R193) -/

/-- The sixteen setup fields in the order and sizes of TOWER_SETUP (Table 2-1). -/
def setupBytes (u : Setup) : List Byte :=
  [flagByte u.enabled, byteOf u.keyCount] ++ be16 u.keyPitch ++ be16s u.plateOffset ++ [byteOf u.curveId.val] ++
    be16 u.minOpening ++ [byteOf u.tolerance, byteOf u.replyWindow, byteOf u.motionLimit] ++ be16 u.gain ++
    [byteOf u.deadBand] ++ be16 u.stepLimit ++ be16 u.corrLimit ++
    [byteOf u.lagSheets, byteOf u.sweep, byteOf u.towerTrim]

/-- The snapshot of TOWER (R193). -/
def towerSnapshot (s : State) (p : List Byte) : Snapshot :=
  match towerOf (byteAt p 1) with
  | none => .error .badField
  | some t =>
    let w := s.tower t
    .ok
      (byteOf t.val :: setupBytes w.setup ++
        [byteOf w.generation, phaseCode w.phase, stagedCode w.staged, activeCode w.active])

/-- QUERY_TOWER (R193). -/
def execQueryTower (s : State) : Outcome := query .tower towerSnapshot s

/-! ### KEYS (R194) -/

/-- A key entry of 22 bytes; absent fields are zeros (R191, R194). -/
def keyEntry (k : Key) : List Byte :=
  let c := k.computed.getD { coverage := 0, curveOpening := 0, target := 0, saturation := .none }
  [byteOf (bitsOf [k.computed.isSome, k.sentTarget.isSome, k.lastReported.isSome, k.settledAt.isSome]),
      keyStateCode k.state, byteOf k.retry] ++
    be16 c.coverage ++ be16 c.curveOpening ++ be16 c.target ++ [saturationCode c.saturation] ++ be16s k.keyTrim ++
    be16s k.corr ++ be16 (k.sentTarget.getD 0) ++ be16 (k.lastReported.getD 0) ++
    be32 ((k.settledAt.map BitVec.toNat).getD 0)

/-- The snapshot of KEYS, after its checks in order (R194). -/
def keysSnapshot (s : State) (p : List Byte) : Snapshot :=
  match towerOf (byteAt p 1) with
  | none => .error .badField
  | some t =>
    let w := s.tower t
    let first := byteAt p 2
    let count := byteAt p 3
    if w.setup.enabled = false then .error .towerOff
    else if count = 0 ∨ 5 < count then .error .badField
    else if first = 0 ∨ w.setup.keyCount < first + count - 1 then .error .badField
    else .ok ([byteOf t.val, byteOf first, byteOf count] ++ ((w.keys.drop (first - 1)).take count).flatMap keyEntry)

/-- QUERY_KEYS (R194). -/
def execQueryKeys (s : State) : Outcome := query .keys keysSnapshot s

/-! ### GROUPS (R195) -/

/-- A group entry of 10 bytes (R195). -/
def groupEntry (t : TowerIx) (r : Group) : List Byte :=
  [byteOf r.index.val, nodeAddress t r.index, presenceCode r.presence, byteOf r.missCount,
      byteOf (bitsOf [r.busy, r.isLocal])] ++
    be16 (r.motionTimer.getD 0xFFFF) ++ [byteOf r.generation] ++ be16 r.timeouts

/-- The snapshot of GROUPS, after its checks in order (R195). -/
def groupsSnapshot (s : State) (p : List Byte) : Snapshot :=
  match towerOf (byteAt p 1) with
  | none => .error .badField
  | some t =>
    let w := s.tower t
    if w.setup.enabled = false then .error .towerOff
    else .ok ([byteOf t.val, byteOf (groupCount w.setup.keyCount)] ++ w.groups.flatMap (groupEntry t))

/-- QUERY_GROUPS (R195). -/
def execQueryGroups (s : State) : Outcome := query .groups groupsSnapshot s

/-! ### PROFILE (R196) -/

/-- A zone word: the value in bits 9..0, bit 15 when the zone is marked written (R196). -/
def zoneWord (value : Nat) (written : Bool) : List Byte := be16 ((if written then 32768 else 0) + value)

/-- The zone words of a run of zones with their marks; no mark is set past the end of the marks (R196). -/
def zoneWords : List Nat → List Bool → List Byte
  | [], _ => []
  | v :: vs, [] => zoneWord v false ++ zoneWords vs []
  | v :: vs, m :: ms => zoneWord v m ++ zoneWords vs ms

/-- The header and zones of a record that is not EMPTY (R196). -/
def profileBytes (t record : Nat) (status : Byte) (b : ProfileBody) (pointer : Nat) (written : List Bool)
    (first count : Nat) : List Byte :=
  let n := min count (b.zoneCount - first)
  [byteOf t, byteOf record, status, loadModeCode b.mode] ++ be16 b.job ++ [byteOf b.zoneCount] ++ be16 b.zonePitch ++
    be16s b.zoneOrigin ++ be16 b.sheetLeft ++ be16 b.sheetRight ++ [byteOf pointer] ++ be16 b.clampedCount ++
    be16 b.overrunCount ++ [byteOf first, byteOf n] ++
    zoneWords ((b.zones.drop first).take n) ((written.drop first).take n)

/-- The header of an EMPTY record: every field after the record byte 0 but FirstZone (R196). -/
def emptyProfileBytes (t record first : Nat) : List Byte :=
  [byteOf t, byteOf record] ++ List.replicate 18 0 ++ [byteOf first, 0]

/-- The snapshot of PROFILE, after its checks in order (R196). -/
def profileSnapshot (s : State) (p : List Byte) : Snapshot :=
  match towerOf (byteAt p 1) with
  | none => .error .badField
  | some t =>
    let w := s.tower t
    let record := byteAt p 2
    let first := byteAt p 3
    let count := byteAt p 4
    if 1 < record then .error .badField
    else if count = 0 ∨ 48 < count then .error .badField
    else if record = 0 then
      match w.staged with
      | none => .ok (emptyProfileBytes t.val record first)
      | some q =>
        if q.body.zoneCount ≤ first then .error .badField
        else .ok (profileBytes t.val record (stagedCode (some q)) q.body q.pointer q.written first count)
    else
      match w.active with
      | none => .ok (emptyProfileBytes t.val record first)
      | some a =>
        if a.body.zoneCount ≤ first then .error .badField
        else .ok (profileBytes t.val record (activeCode (some a)) a.body 0 [] first count)

/-- QUERY_PROFILE (R196). -/
def execQueryProfile (s : State) : Outcome := query .profile profileSnapshot s

/-! ### CURVE (R197) -/

/-- The snapshot of CURVE (R197). -/
def curveSnapshot (s : State) (p : List Byte) : Snapshot :=
  match curveOf (byteAt p 1) with
  | none => .error .badField
  | some i =>
    match s.curve i with
    | none => .ok [byteOf i.val, 0, 0, 0]
    | some c =>
      .ok
        ([byteOf i.val, 1, byteOf c.refSweep, byteOf c.points.length] ++
          c.points.flatMap fun q => be16 q.coverage ++ be16 q.opening)

/-- QUERY_CURVE (R197). -/
def execQueryCurve (s : State) : Outcome := query .curve curveSnapshot s

/-! ### COUNTERS (R198) -/

/-- The group records at the forty-eight nodes 0x20..0x4F, in node order (R198). -/
def State.nodeRecords (s : State) : List (Option Group) :=
  allTowers.flatMap fun t => allGroups.map fun g => (s.tower t).group? g

/-- Eight flags a byte, the first flag bit 0 (R198). -/
def mapBytes : List Bool → List Byte
  | a :: b :: c :: d :: e :: f :: g :: h :: rest => byteOf (bitsOf [a, b, c, d, e, f, g, h]) :: mapBytes rest
  | _ => []

/-- The snapshot of COUNTERS (R198). -/
def countersSnapshot (s : State) (_ : List Byte) : Snapshot :=
  .ok
    (be16 s.console.checkErrors ++ be16 s.console.overruns ++ be16 s.console.noRouteCount ++
      mapBytes (s.nodeRecords.map Option.isSome) ++
      s.nodeRecords.flatMap fun r => be16 ((r.map Group.timeouts).getD 0))

/-- QUERY_COUNTERS (R198). -/
def execQueryCounters (s : State) : Outcome := query .counters countersSnapshot s

end Sys2Proof.Machine
end

