-- ==== Sys2Proof/Machine/Console.lean ====
section
/-! DEFINITION. The Console Port and the Management Handler (chapter 1): reception with its counters, the link and its
silence timer, transmission, the taking and routing of a telegram, and RESTART. -/

namespace Sys2Proof.Machine

/-! ### Reception (R6, R16, R17) -/

/-- A valid arrival restarts the silence timer, or restores the link with the lamp lit (R6, R16, R17). -/
def State.linkArrival (s : State) : State :=
  s.withConsole { s.console with link := .up, lineok := true, silence := some Config.silenceMs }

/-- A valid telegram placed at the tail of the inbound buffer, or discarded as an overrun (R6). -/
def State.placeInbound (s : State) (t : Telegram) : State :=
  if s.console.inbound.length < Config.inboundPlaces then
    s.withConsole { s.console with inbound := s.console.inbound ++ [t] }
  else (s.withConsole { s.console with overruns := satAdd s.console.overruns }).raise srcLineError .none

/-- The arrival of a valid console telegram; when it restores the link, the restoration notice follows the placing (R6,
R17; log 11). -/
def State.consoleArrival (s : State) (t : Telegram) : State :=
  let placed := s.linkArrival.placeInbound t
  match s.console.link with
  | .lost => placed.restorationNotice
  | .up => placed

/-- CONSOLE_TELEGRAM_RECEIVED (R6): the step takes place when the characters are a valid telegram (R3). -/
def execConsoleTelegramReceived (chars : List RxChar) (s : State) : Outcome :=
  event s fun s =>
    match receive chars with
    | .valid t => s.consoleArrival t
    | _ => s

/-- An invalid console telegram: discarded, CheckErrors counted, LINE_ERROR raised (R6). -/
def State.consoleInvalid (s : State) : State :=
  (s.withConsole { s.console with checkErrors := satAdd s.console.checkErrors }).raise srcLineError .none

/-- CONSOLE_TELEGRAM_INVALID (R6): the step takes place when the characters are an invalid telegram (R1, R3). Characters
that no start marker opens are ignored and count nothing (R1). -/
def execConsoleTelegramInvalid (chars : List RxChar) (s : State) : Outcome :=
  event s fun s =>
    match receive chars with
    | .invalid => s.consoleInvalid
    | _ => s

/-- The silence timer's expiry: the link LOST with the lamp dark, LINK_LOST raised, the forward queue flushed (R16,
R143). -/
def State.silenceExpired (s : State) : State :=
  match s.console.link with
  | .lost => s
  | .up =>
    ((s.withConsole { s.console with link := .lost, lineok := false, silence := none }).withDrive
      { s.drive with forward := [] }).raise srcLinkLost .none

/-- SILENCE_TIMER_EXPIRY (R16): the timer runs while the link is UP. -/
def execSilenceTimerExpiry (s : State) : Outcome := event s State.silenceExpired

/-! ### Transmission (R13, R19) -/

/-- A waiting restart counts its REPLY toward the head of the transmit queue, and is due when that has left the line
(R19). -/
def Restart.transmitted : Restart → Restart
  | .waiting k ahead => if ahead ≤ 1 then .due k else .waiting k (ahead - 1)
  | r => r

/-- The oldest telegram has left the line and is removed (R13). -/
def State.transmitted (s : State) : State :=
  match s.console.tx with
  | [] => s
  | _ :: rest =>
    (s.withConsole { s.console with tx := rest }).withHandler
      { s.handler with restart := s.handler.restart.transmitted }

/-- CONSOLE_TRANSMIT_DONE (R13). -/
def execConsoleTransmitDone (s : State) : Outcome := event s State.transmitted

/-! ### Taking and routing (R8 to R10) -/

/-- The refusal of a telegram to the ZK412 that no kind's command executes: an unknown kind (R10), or a QUERY that names no
target, with its answer's kind (R10, R191; log 4). -/
def unnamedRefusal (t : Telegram) : Option (Byte × Result) :=
  match kindOf t.kind with
  | none => some (Config.kindReply, .unknownKind)
  | some .query =>
    match t.payload with
    | [] => some (Config.kindQueryData, .badLength)
    | target :: _ =>
      if (targetOf target).isSome then none
      else if Kind.query.lengthOk t.payload.length then some (Config.kindQueryData, .badField)
      else some (Config.kindQueryData, .badLength)
  | some _ => none

/-- A destination that is routed to the forward queue: the drive range or broadcast (R9). -/
def forwardRoute (dest : Byte) : Bool := (nodeParts dest).isSome || dest == Config.broadcastNode

/-- The telegram in hand routed by its Destination (R9). -/
def State.route (s : State) (t : Telegram) : State :=
  if t.dest = Config.ownNode then
    match unnamedRefusal t with
    | some (kind, r) => s.answerHeld (answerTelegram kind t.kind r [])
    | none => s
  else if forwardRoute t.dest then s.offerForward t
  else
    (s.withConsole { s.console with noRouteCount := satAdd s.console.noRouteCount }).answerHeld
      (answerTelegram Config.kindReply t.kind .noRoute [t.dest])

/-- The Management Handler takes the oldest inbound telegram, reserves a place for its answer and routes it (R8, R9). -/
def State.handlerTake (s : State) : State :=
  match s.console.inbound with
  | [] => s
  | t :: rest =>
    if s.handlerReady && 1 ≤ s.console.freePlaces then
      ((s.withConsole { s.console with inbound := rest, reservedHandler := true }).withHandler
        { s.handler with hand := some t }).route t
    else s

/-- HANDLER_TAKE (R8). -/
def execHandlerTake (s : State) : Outcome := event s State.handlerTake

/-! ### RESTART (R19) -/

/-- The restart that a payload byte requests (R19). -/
def restartOf : Nat → Option RestartKind
  | 1 => some .warm
  | 2 => some .cold
  | _ => none

/-- The rules of RESTART: the Handler waits for the REPLY, which will be the last telegram of the transmit queue (R19). -/
def restartRules (s : State) (p : List Byte) : Answer :=
  match restartOf (byteAt p 0) with
  | none => refuse s .badField []
  | some k =>
    { state := s.withHandler { s.handler with restart := .waiting k (s.console.tx.length + 1) }, result := .ok, data := [] }

/-- RESTART (R19). -/
def execRestart (s : State) : Outcome := management .restart restartRules s

end Sys2Proof.Machine
end

