-- ==== Sys2Proof/Machine/Restarts.lean ====
section
/-! DEFINITION. Power-on, nRESET and the two restarts (R19 to R21, R171), each with the level of the HOLD input that the
part finds when it samples it. -/

namespace Sys2Proof.Machine

/-- HaltPending set when Hold is ASSERTED (R171). -/
def haltIfHeld (h : HoldLevel) : Bool := h == .asserted

/-- The power-on state established, with the level of the HOLD input sampled (R21, R171); the queue of commands is no part
of the ZK412 and stays. -/
def State.powerOn (s : State) (h : HoldLevel) : State :=
  { State.reset with
    press := { State.reset.press with hold := h },
    drive := { State.reset.drive with haltPending := haltIfHeld h },
    pending := s.pending }

/-- POWER_ON (R21). -/
def execPowerOn (h : HoldLevel) (s : State) : Outcome := .next (s.powerOn h)

/-- The drive line when nRESET is asserted: a telegram being sent is left truncated (R21). -/
def Line.cutOff : Line → Line
  | .sending _ _ _ => .free
  | l => l

/-- nRESET asserted: nothing is transmitted, DLDE is released, LINEOK is dark, a waiting restart is forgotten (R18, R19,
R21). What the part holds is replaced at the release (log 8). -/
def State.resetAsserted (s : State) : State :=
  { ((s.withLine s.drive.line.cutOff).withConsole { s.console with lineok := false }).withHandler
      { s.handler with restart := .idle } with nreset := true }

/-- NRESET_ASSERT (R21). -/
def execNresetAssert (s : State) : Outcome := event s State.resetAsserted

/-- NRESET_RELEASE (R21): the power-on state is established; without an asserted nRESET there is no release (log 2). -/
def execNresetRelease (h : HoldLevel) (s : State) : Outcome := if s.nreset then .next (s.powerOn h) else .next s

/-- COLD_RESTART (R19, R21): the power-on state is established once the RESTART's REPLY has left the line. -/
def execColdRestart (h : HoldLevel) (s : State) : Outcome :=
  event s fun s => if s.handler.restart = .due .cold then s.powerOn h else s

/-! ### WARM -/

/-- A tower after a WARM restart: an open load dropped, and of an enabled tower the key and group records renewed with the
next Generation and every key recomputed from what is kept (R20, R37, R41, R81, R123). -/
def Tower.warm (w : Tower) (curve : Option Curve) : Tower :=
  let dropped := { w with staged := none, idle := none }
  if w.setup.enabled then
    let generation := nextGeneration w.generation
    let renewed :=
      { dropped with generation := generation, keys := w.keys.map fun k : Key => k.renewed.computedFrom w curve,
                     groups := w.groups.map fun r : Group => r.renewed generation }
    { renewed with phase := renewed.derivedPhase }
  else dropped

/-- The towers after a WARM restart (R20). -/
def State.warmTower (s : State) (t : TowerIx) : State :=
  s.withTower t ((s.tower t).warm (s.curve (s.tower t).setup.curveId))

/-- The drive line after a WARM restart: an open window is abandoned, a telegram being sent is completed and then treated
as abandoned, a gap runs to its end (R20, R129). -/
def Line.warm : Line → Line
  | .free => .free
  | .sending what t _ => .sending what t true
  | .waiting _ _ => .free
  | .gap n => .gap n

/-- The blocks of R20's table other than the towers and the Poller's forced round. -/
def State.warmBlocks (s : State) (h : HoldLevel) : State :=
  { s with
    console := { s.console with tx := [], reservedHandler := false, reservedForward := false },
    handler := { hand := none, restart := .idle },
    drive := { s.drive with line := s.drive.line.warm, forward := [], haltPending := haltIfHeld h },
    poller := s.poller.withoutRound,
    press := { s.press with hold := h, mode := .normal },
    attention := Attention.fresh }

/-- A WARM restart takes effect: every block of R20's table, and then the forced round over the renewed records (R20,
R161, R171). -/
def State.warmRestart (s : State) (h : HoldLevel) : State :=
  (allTowers.foldl State.warmTower (s.warmBlocks h)).startRound

/-- WARM_RESTART (R20): once the RESTART's REPLY has left the line (R19). -/
def execWarmRestart (h : HoldLevel) (s : State) : Outcome :=
  event s fun s => if s.handler.restart = .due .warm then s.warmRestart h else s

end Sys2Proof.Machine
end

