-- ==== Sys2Proof/Machine/Dispatch.lean ====
section
/-! DEFINITION. One arm per command of spec/opcode_table.json, each one call of its meaning. -/

namespace Sys2Proof.Machine

def exec (i : Instr) (s : State) : Host.Outcome State Fault Refusal :=
  match i with
  | .powerOn hold => Sys2Proof.Machine.execPowerOn hold s
  | .nresetAssert => Sys2Proof.Machine.execNresetAssert s
  | .nresetRelease hold => Sys2Proof.Machine.execNresetRelease hold s
  | .consoleTelegramReceived chars => Sys2Proof.Machine.execConsoleTelegramReceived chars s
  | .consoleTelegramInvalid chars => Sys2Proof.Machine.execConsoleTelegramInvalid chars s
  | .silenceTimerExpiry => Sys2Proof.Machine.execSilenceTimerExpiry s
  | .consoleTransmitDone => Sys2Proof.Machine.execConsoleTransmitDone s
  | .handlerTake => Sys2Proof.Machine.execHandlerTake s
  | .towerSetup => Sys2Proof.Machine.execTowerSetup s
  | .curveLoad => Sys2Proof.Machine.execCurveLoad s
  | .towerTrim => Sys2Proof.Machine.execTowerTrim s
  | .profileBegin => Sys2Proof.Machine.execProfileBegin s
  | .profileZones => Sys2Proof.Machine.execProfileZones s
  | .profileEnd => Sys2Proof.Machine.execProfileEnd s
  | .profileIdleExpiry tower => Sys2Proof.Machine.execProfileIdleExpiry tower s
  | .jobCommit => Sys2Proof.Machine.execJobCommit s
  | .keyTrim => Sys2Proof.Machine.execKeyTrim s
  | .densityReport => Sys2Proof.Machine.execDensityReport s
  | .faultClear => Sys2Proof.Machine.execFaultClear s
  | .sweepConfig => Sys2Proof.Machine.execSweepConfig s
  | .pressState => Sys2Proof.Machine.execPressState s
  | .mode => Sys2Proof.Machine.execMode s
  | .attentionConfig => Sys2Proof.Machine.execAttentionConfig s
  | .attentionPoll => Sys2Proof.Machine.execAttentionPoll s
  | .queryDevice => Sys2Proof.Machine.execQueryDevice s
  | .queryTower => Sys2Proof.Machine.execQueryTower s
  | .queryKeys => Sys2Proof.Machine.execQueryKeys s
  | .queryGroups => Sys2Proof.Machine.execQueryGroups s
  | .queryProfile => Sys2Proof.Machine.execQueryProfile s
  | .queryCurve => Sys2Proof.Machine.execQueryCurve s
  | .queryCounters => Sys2Proof.Machine.execQueryCounters s
  | .restart => Sys2Proof.Machine.execRestart s
  | .warmRestart hold => Sys2Proof.Machine.execWarmRestart hold s
  | .coldRestart hold => Sys2Proof.Machine.execColdRestart hold s
  | .haltGrant => Sys2Proof.Machine.execHaltGrant s
  | .forwardGrant => Sys2Proof.Machine.execForwardGrant s
  | .sweepGrant => Sys2Proof.Machine.execSweepGrant s
  | .moveGrant => Sys2Proof.Machine.execMoveGrant s
  | .driveSendComplete => Sys2Proof.Machine.execDriveSendComplete s
  | .haltSent => Sys2Proof.Machine.execHaltSent s
  | .gapEnd => Sys2Proof.Machine.execGapEnd s
  | .moveAcceptReceived chars => Sys2Proof.Machine.execMoveAcceptReceived chars s
  | .moveRejectReceived chars => Sys2Proof.Machine.execMoveRejectReceived chars s
  | .statusReceived chars => Sys2Proof.Machine.execStatusReceived chars s
  | .forwardedReplyReceived chars => Sys2Proof.Machine.execForwardedReplyReceived chars s
  | .driveTelegramDiscarded chars => Sys2Proof.Machine.execDriveTelegramDiscarded chars s
  | .moveWindowExpiry => Sys2Proof.Machine.execMoveWindowExpiry s
  | .statusWindowExpiry => Sys2Proof.Machine.execStatusWindowExpiry s
  | .forwardTimeout => Sys2Proof.Machine.execForwardTimeout s
  | .motionTimerExpiry tower group => Sys2Proof.Machine.execMotionTimerExpiry tower group s
  | .sweepTimerExpiry => Sys2Proof.Machine.execSweepTimerExpiry s
  | .sheetPulse => Sys2Proof.Machine.execSheetPulse s
  | .holdAssert => Sys2Proof.Machine.execHoldAssert s
  | .holdRelease => Sys2Proof.Machine.execHoldRelease s

end Sys2Proof.Machine
end

