-- ==== Sys2Proof/Machine/Step.lean ====
section
/-! DEFINITION. One step: the command at the front of the queue, on the state with the queue's rest; when no command waits,
one millisecond passes (log 1). -/

namespace Sys2Proof.Machine

/-- The state with the rest of the queue of commands. -/
def State.withPending (s : State) (rest : List Instr) : State := { s with pending := rest }

/-- One step of the part. -/
def step (s : State) : Host.Outcome State Fault Refusal :=
  match s.pending with
  | i :: rest => exec i (s.withPending rest)
  | [] => .next s.tick

/-- The state with the command that a word spells put at the front of the queue; no word spells one (log 19). -/
def State.withFetchWord (s : State) (nbits w : Nat) : State :=
  match decodeTableWord nbits w with
  | some i => s.withPending (i :: s.pending)
  | none => s

end Sys2Proof.Machine
end

