-- ==== Sys2Proof/Safety.lean ====
section
/-! DEFINITION. What a sound state of the part is: one predicate per group of items, each collecting the ranges and the
relations between items that the manual states, and the words in which the statements speak of an event's outcome. -/

namespace Sys2Proof.Machine

/-! ### The words of the statements -/

/-- Between events, with nRESET released: no source waits to be judged (R183, R21). -/
abbrev State.ready (s : State) : Prop := s.nreset = false ∧ s.attention.due = []

/-- Between events, the Handler holds the telegram, which is of the kind and of a permitted Length (R8, R10). -/
abbrev State.holds (s : State) (k : Kind) (t : Telegram) : Prop :=
  s.ready ∧ s.handler.hand = some t ∧ t.kind = k.code ∧ k.lengthOk t.payload.length = true

/-- The state whose only difference is that the telegram in hand has been answered: the answer is the last telegram of the
transmit queue, no place is reserved for it any more, and the Handler holds nothing (R8, R11). -/
def State.answered (s : State) (kind : Byte) (t : Telegram) (r : Result) (data : List Byte) : State :=
  { s with
    console := { s.console with reservedHandler := false,
                                tx := s.console.tx ++ [makeTelegram 0x01 0x08 kind (t.kind :: r.code :: data)] },
    handler := { s.handler with hand := none } }

/-- Answered by a REPLY, kind 0x80 (R11). -/
def State.replied (s : State) (t : Telegram) (r : Result) (data : List Byte) : State := s.answered 0x80 t r data

/-- A source record after one more occurrence (R182). -/
def SourceRecord.after (r : SourceRecord) (d : Detail) : SourceRecord :=
  { r with
    pending := match r.pending with
      | none => some { count := 1, detail := d }
      | some o => some { o with count := Machine.mergeCount o.count } }

/-- The notices that one occurrence of a source brings at the end of its event: one, when the source was clear and unmasked,
the link is UP and 4 places are free (R182, R183). -/
def State.noticeOf (s : State) (i : SourceIx) (d : Detail) : List Telegram :=
  if (s.source i).pending = none ∧ (s.source i).mask = false ∧ s.console.link = .up ∧ 4 ≤ s.console.freePlaces then
    [makeTelegram 0x01 0x08 0x82 (noticeFields i (s.source i).priority { count := 1, detail := d })]
  else []

/-- The state after an event with one occurrence, when everything else the event changes stands in `s` already. -/
def State.occurred (s : State) (i : SourceIx) (d : Detail) : State :=
  { s with
    console := { s.console with tx := s.console.tx ++ s.noticeOf i d },
    attention := { sources := s.attention.sources.set i ((s.source i).after d), due := [] } }

/-- The state after an event in which the stored Phase of a tower changed: TOWER_READY has occurred when READY was entered
(R31). -/
def State.phaseChanged (s : State) (t : TowerIx) (before after : Phase) : State :=
  if after = .ready ∧ before ≠ .ready then s.occurred srcTowerReady (.tower t) else s

/-- A tower whose keys and Phase are as an event leaves them: the Phase is the one that R29 gives for the new keys. -/
def Tower.withKeys (w : Tower) (keys : List Key) : Tower :=
  { w with keys := keys, phase := { w with keys := keys }.derivedPhase }

/-- A key after its recompute with the inputs of the tower given, its outcome applied (R75, R105, R106). -/
def State.keyRecomputed (s : State) (t : TowerIx) (w : Tower) (k : Key) : Key :=
  (k.computedFrom w (s.curve w.setup.curveId)).recomputeOutcome w.setup.tolerance s.sheetCount (s.onLine t k)

/-- The command is the one that executes the telegram: its kind's, and for a QUERY its target's (R10, R191). -/
def executes (c : Instr) (t : Telegram) : Bool :=
  match c with
  | .towerSetup => t.kind == 0x10
  | .curveLoad => t.kind == 0x11
  | .towerTrim => t.kind == 0x12
  | .profileBegin => t.kind == 0x20
  | .profileZones => t.kind == 0x21
  | .profileEnd => t.kind == 0x22
  | .jobCommit => t.kind == 0x23
  | .keyTrim => t.kind == 0x30
  | .densityReport => t.kind == 0x31
  | .faultClear => t.kind == 0x38
  | .sweepConfig => t.kind == 0x40
  | .pressState => t.kind == 0x48
  | .mode => t.kind == 0x49
  | .attentionConfig => t.kind == 0x50
  | .attentionPoll => t.kind == 0x51
  | .queryDevice => t.kind == 0x58 && t.payload.head? == some 0x00
  | .queryTower => t.kind == 0x58 && t.payload.head? == some 0x01
  | .queryKeys => t.kind == 0x58 && t.payload.head? == some 0x02
  | .queryGroups => t.kind == 0x58 && t.payload.head? == some 0x03
  | .queryProfile => t.kind == 0x58 && t.payload.head? == some 0x04
  | .queryCurve => t.kind == 0x58 && t.payload.head? == some 0x05
  | .queryCounters => t.kind == 0x58 && t.payload.head? == some 0x06
  | .restart => t.kind == 0x5F
  | _ => false

/-- The predicate holds after every step from every state in which it holds. -/
def Keeps (P : State → Prop) : Prop := ∀ s t, P s → step s = .next t → P t

/-! ### Buffers and queues (chapters 1 and 7) -/

/-- The line carries, or awaits the reply to, a forwarded telegram that is not abandoned (R14, R129). -/
def Line.forwardInHand (l : Line) : Bool :=
  match l.transaction? with
  | some { work := .forward _, .. } => true
  | _ => false

/-- Which telegram of the transmit queue, from its head, is the REPLY that a waiting restart waits for (R19). -/
def Restart.ahead : Restart → Option Nat
  | .waiting _ n => some n
  | _ => none

/-- No buffer holds more than its places, reserved places counted (R6, R13, R139); the Handler's telegram and a forward
transaction have their places (R8, R14); a Handler that waits for a restart holds no telegram, and its REPLY is in the
transmit queue (R19). -/
abbrev State.placesOk (s : State) : Prop :=
  s.console.inbound.length ≤ 4 ∧ s.drive.forward.length ≤ 8 ∧ s.console.tx.length + s.console.reserved ≤ 16 ∧
    (s.handler.hand.isSome → s.console.reservedHandler = true) ∧
    (s.drive.line.forwardInHand = true → s.console.reservedForward = true) ∧
    (s.handler.hand.isSome → s.handler.restart = .idle) ∧
    ∀ n ∈ s.handler.restart.ahead, 1 ≤ n ∧ n ≤ s.console.tx.length

/-! ### Outputs, the link and the Attention Unit (chapters 1 and 10) -/

/-- The line is in SENDING. -/
def Line.isSending : Line → Bool
  | .sending _ _ _ => true
  | _ => false

/-- LINEOK follows LinkState and is dark under nRESET (R18); the silence timer runs exactly while the link is UP (R16); DLDE
is asserted exactly in SENDING (R1, R126); no judgement is left over from an event (R183). -/
abbrev State.outputsOk (s : State) : Prop :=
  s.console.lineok = (s.console.link == .up && !s.nreset) ∧ s.console.silence.isSome = (s.console.link == .up) ∧
    s.drive.dlde = s.drive.line.isSending ∧ s.attention.due = []

/-- The form of detail that Table 10-1 gives for a source. -/
def detailFits (i : SourceIx) : Detail → Bool
  | .level _ => i == srcHoldChange
  | .key _ _ => i == srcKeyFault || i == srcCorrLimit
  | .group _ _ => i == srcGroupAbsent || i == srcGroupReturned || i == srcFwdOverflow
  | .tower _ => i == srcProfilePartial || i == srcTowerReady || i == srcZoneOverrun
  | .none => i == srcLinkLost || i == srcLineError || i == srcSweepOverrun || i == srcFwdOverflow

/-- Every source record has a Priority 0..7, and while Pending a MergeCount 1..255 and a detail of its source's form (R181,
R182, Table 10-1). -/
abbrev State.attentionOk (s : State) : Prop :=
  ∀ i : SourceIx, (s.source i).priority ≤ 7 ∧
    ∀ o ∈ (s.source i).pending, 1 ≤ o.count ∧ o.count ≤ 255 ∧ detailFits i o.detail = true

/-- The Console Port's counters lie in 16 bits (R6). -/
abbrev State.countersOk (s : State) : Prop :=
  s.console.checkErrors ≤ 65535 ∧ s.console.overruns ≤ 65535 ∧ s.console.noRouteCount ≤ 65535

/-! ### The Readback Poller (chapter 8) -/

/-- Table 8-1 with the relations of R148 to R158: the SweepTimer runs exactly under TIMER, an Interval is pending only under
TIMER, sheets are counted only under SHEET, a trigger is latched and an entry is in hand only while a round is active, the
Cursor of an active round is on an entry and an inactive round has no list, and no round is active in PASSTHROUGH. -/
abbrev State.pollerOk (s : State) : Prop :=
  let p := s.poller
  (20 ≤ p.interval ∧ p.interval ≤ 2000) ∧ (∀ n ∈ p.intervalPending, 20 ≤ n ∧ n ≤ 2000 ∧ p.source = .timer) ∧
    (1 ≤ p.divider ∧ p.divider ≤ 64) ∧ p.dividerCount ≤ 63 ∧ (p.source = .timer → p.dividerCount = 0) ∧
    p.sweepTimer.isSome = (p.source == .timer) ∧ p.roundNumber ≤ 65535 ∧
    (p.roundPending = true → p.roundActive = true) ∧ (p.inHand = true → p.roundActive = true) ∧
    (p.roundActive = true → p.cursor < p.pollList.length) ∧
    (p.roundActive = false → p.pollList = [] ∧ p.cursor = 0) ∧
    (s.press.mode = .passthrough → p.roundActive = false)

/-! ### Towers, curves and profiles (chapters 2 and 3) -/

/-- The setup fields lie in the ranges of Table 2-1. -/
abbrev Setup.inRanges (u : Setup) : Prop :=
  (8 ≤ u.keyCount ∧ u.keyCount ≤ 48) ∧ (200 ≤ u.keyPitch ∧ u.keyPitch ≤ 600) ∧
    (-2000 ≤ u.plateOffset ∧ u.plateOffset ≤ 2000) ∧ u.minOpening ≤ 400 ∧ (2 ≤ u.tolerance ∧ u.tolerance ≤ 40) ∧
    (1 ≤ u.replyWindow ∧ u.replyWindow ≤ 50) ∧ (1 ≤ u.motionLimit ∧ u.motionLimit ≤ 30) ∧ u.gain ≤ 400 ∧
    u.deadBand ≤ 50 ∧ u.stepLimit ≤ 400 ∧ u.corrLimit ≤ 1000 ∧ u.lagSheets ≤ 255 ∧ (20 ≤ u.sweep ∧ u.sweep ≤ 100) ∧
    (50 ≤ u.towerTrim ∧ u.towerTrim ≤ 200)

/-- A LOADED curve as Table 2-3 gives it (R32, R33). -/
abbrev Curve.ok (c : Curve) : Prop :=
  (20 ≤ c.refSweep ∧ c.refSweep ≤ 100) ∧ (2 ≤ c.points.length ∧ c.points.length ≤ 16) ∧
    c.points.head?.map Point.coverage = some 0 ∧ c.points.getLast?.map Point.coverage = some 1000 ∧
    c.points.Pairwise (fun p q => p.coverage < q.coverage) ∧ ∀ p ∈ c.points, p.opening ≤ 4000

/-- Every LOADED curve is as Table 2-3 gives it, and every enabled tower has a setup in the ranges of Table 2-1 that names a
LOADED curve (R22, R65). -/
abbrev State.tablesOk (s : State) : Prop :=
  (∀ i : CurveIx, ∀ c ∈ s.curve i, c.ok) ∧
    ∀ t : TowerIx, (s.tower t).setup.enabled = true →
      (s.tower t).setup.inRanges ∧ (s.curve (s.tower t).setup.curveId).isSome = true

/-- The header, zones and counters of a profile lie in the ranges of Table 3-1. -/
abbrev ProfileBody.ok (b : ProfileBody) : Prop :=
  (1 ≤ b.job ∧ b.job ≤ 65535) ∧ (1 ≤ b.zoneCount ∧ b.zoneCount ≤ 96) ∧ (50 ≤ b.zonePitch ∧ b.zonePitch ≤ 600) ∧
    (-3000 ≤ b.zoneOrigin ∧ b.zoneOrigin ≤ 3000) ∧ b.sheetLeft < b.sheetRight ∧ b.sheetRight ≤ 16000 ∧
    b.zones.length = b.zoneCount ∧ (∀ v ∈ b.zones, v ≤ 1000) ∧ b.clampedCount ≤ 65535 ∧ b.overrunCount ≤ 65535

/-- Both profiles of every tower are as Table 3-1 gives them, and a tower's idle timer runs exactly while its Staged profile is
LOADING (R52). -/
abbrev State.profilesOk (s : State) : Prop :=
  ∀ t : TowerIx,
    (∀ q ∈ (s.tower t).staged, q.body.ok ∧ q.written.length = q.body.zoneCount ∧ q.pointer ≤ q.body.zoneCount) ∧
      (∀ a ∈ (s.tower t).active, a.body.ok) ∧
      (s.tower t).idle.isSome = (s.tower t).loading.isSome

/-! ### Key and group records (chapter 6) -/

/-- A disabled tower has no key or group records; an enabled one has keys 1 to KeyCount in order and its ceil(KeyCount / 12)
groups in order, each with the tower's Generation (R24, R102, R114). A group's counters lie in their ranges, its MotionTimer
runs exactly while it is Busy (R115), and a key is UNREACHABLE exactly when its group is ABSENT (R120). -/
abbrev State.recordsOk (s : State) : Prop :=
  ∀ t : TowerIx,
    let w := s.tower t
    w.generation ≤ 255 ∧
      w.keys.map Key.index = (if w.setup.enabled then List.range' 1 w.setup.keyCount else []) ∧
      w.groups.map Group.index =
        (if w.setup.enabled then allGroups.filter fun g => g.val < groupCount w.setup.keyCount else []) ∧
      (∀ r ∈ w.groups, r.generation = w.generation ∧ r.missCount ≤ 3 ∧ r.timeouts ≤ 65535 ∧
        r.motionTimer.isSome = r.busy) ∧
      ∀ r ∈ w.groups, ∀ k ∈ w.keys, k.group = r.index.val → (k.state = .unreachable ↔ r.presence = .absent)

/-- The Phase of every tower is the one that R29 derives from the tower as it stands (R29, R30). -/
abbrev State.phasesOk (s : State) : Prop := ∀ t : TowerIx, (s.tower t).phase = (s.tower t).derivedPhase

/-- The four computed fields of every key are what the seven stages give for the key's inputs as they stand; a disabled tower
has no keys (R80). -/
abbrev State.targetsOk (s : State) : Prop :=
  ∀ t : TowerIx,
    ((s.tower t).setup.enabled = false → (s.tower t).keys = []) ∧
      ∀ k ∈ (s.tower t).keys, k.computed = computeKey (s.tower t) (s.curve (s.tower t).setup.curveId) k

/-- The optional fields that Table 6-2 requires in a key's state, and the ranges of Table 6-1. -/
abbrev Key.ok (k : Key) (corrLimit : Nat) : Prop :=
  (k.state = .held → k.computed = none ∧ k.lastReported.isSome = true) ∧
    (k.state = .pending ∨ k.state = .settled → k.computed.isSome = true ∧ k.lastReported.isSome = true) ∧
    (k.state = .moving ∨ k.state = .fault → k.lastReported.isSome = true) ∧
    (k.sentTarget.isSome = true → k.computed.isSome = true) ∧ (k.state = .held → k.sentTarget = none) ∧
    (k.state = .settled → k.settledAt.isSome = true) ∧ (∀ c ∈ k.computed, c.target ≤ 4000) ∧
    (∀ o ∈ k.sentTarget, o ≤ 4000) ∧
    k.retry ≤ 3 ∧ (-1000 ≤ k.keyTrim ∧ k.keyTrim ≤ 1000) ∧ k.corr.natAbs ≤ corrLimit ∧
    ∀ p ∈ k.lastReported, p ≤ 4000

/-- The keys and targets of the MOVE that the drive line carries or that is awaited. -/
def Line.batch : Line → List (Nat × Nat)
  | .sending (.transaction { work := .move _ b, .. }) _ _ => b
  | .waiting { work := .move _ b, .. } _ => b
  | _ => []

/-- Every key is as Tables 6-1 and 6-2 give it; its computed fields are present exactly while its tower has an Active profile
(R65, R103); a disabled tower has no keys, and an enabled one names a LOADED curve and has a MinOpening in its range. The
targets of a MOVE on the line, which become SentTargets (R117), are openings. -/
abbrev State.keysOk (s : State) : Prop :=
  (∀ b ∈ s.drive.line.batch, b.2 ≤ 4000) ∧ ∀ t : TowerIx,
    ((s.tower t).setup.enabled = false → (s.tower t).keys = []) ∧
      ((s.tower t).setup.enabled = true →
        (s.curve (s.tower t).setup.curveId).isSome = true ∧ (s.tower t).setup.minOpening ≤ 400) ∧
      ∀ k ∈ (s.tower t).keys,
        k.ok (s.tower t).setup.corrLimit ∧ k.computed.isSome = (s.tower t).active.isSome

/-! ### The drive line (chapter 7) -/

/-- The rotation order holds each of the twelve tower numbers once (R133). -/
abbrev State.rotationOk (s : State) : Prop := s.drive.rotation.Perm allTowers

/-- The outputs, the Attention Unit, the Console Port's counters and the rotation order are sound. -/
abbrev State.itemsOk (s : State) : Prop := s.outputsOk ∧ s.attentionOk ∧ s.countersOk ∧ s.rotationOk

/-- An originated MOVE is on the drive line or awaited. -/
def Line.hasMove : Line → Bool
  | .sending (.transaction { work := .move _ _, .. }) _ _ => true
  | .waiting { work := .move _ _, .. } _ => true
  | _ => false

/-- The node that the transaction on the drive line, sent or awaited, is addressed to. -/
def Line.destination : Line → Option Byte
  | .sending (.transaction r) _ _ => some r.dest
  | .waiting r _ => some r.dest
  | _ => none

end Sys2Proof.Machine
end

