-- ==== Sys2Proof/Certificates/Slice0/Obligations.lean ====
section
/-! DEFINITION. The statements for the provers: what each command does from every state, the rules of the units behind the
commands, the invariants that every step keeps, and the rules about the whole part. -/

open Sys2Proof Sys2Proof.Machine

/-! ### The machine -/

/-- A step takes the command at the front of the queue, on the state with the rest of the queue (the row's cut). -/
def Obligations.StepTakesTheFrontCommand : Prop :=
  ∀ (s : State) (c : Instr) (rest : List Instr),
    s.pending = c :: rest → step s = exec c { s with pending := rest }

/-- No command faults or is refused, and none touches the queue of commands: errors are result codes, counters, key
states and attention sources (chapters 1, 6, 10). -/
def Obligations.EveryCommandCompletes : Prop :=
  ∀ (c : Instr) (s : State), ∃ t, exec c s = .next t ∧ t.pending = s.pending

/-- With no command waiting and nRESET released, a step is one millisecond: every running timer is one less, nothing
else changes, and the queue holds exactly the expiries of the timers that now have no time left (the model's choice,
log 1; the timers are those of R16, R52, R115, R124, R126, R149). -/
def Obligations.IdleStepIsOneMillisecond : Prop :=
  ∀ s : State, s.pending = [] → s.nreset = false →
    ∃ t, step s = .next t ∧
      t.console = { s.console with silence := s.console.silence.map (· - 1) } ∧
      t.poller = { s.poller with sweepTimer := s.poller.sweepTimer.map (· - 1) } ∧
      t.drive = { s.drive with line := (match s.drive.line with
        | .waiting r n => .waiting r (n - 1)
        | .gap n => .gap (n - 1)
        | l => l) } ∧
      (∀ i, t.tower i = { s.tower i with
        idle := (s.tower i).idle.map (· - 1),
        groups := (s.tower i).groups.map fun r => { r with motionTimer := r.motionTimer.map (· - 1) } }) ∧
      t.nreset = false ∧ t.handler = s.handler ∧ t.curves = s.curves ∧ t.sheetCount = s.sheetCount ∧
      t.press = s.press ∧ t.attention = s.attention ∧
      ∀ c, c ∈ t.pending ↔
        (c = .silenceTimerExpiry ∧ t.console.silence = some 0) ∨
        (c = .sweepTimerExpiry ∧ t.poller.sweepTimer = some 0) ∨
        (c = .gapEnd ∧ t.drive.line = .gap 0) ∨
        (c = .moveWindowExpiry ∧ ∃ d g b w, t.drive.line = .waiting ⟨d, .move g b, w⟩ 0) ∨
        (c = .statusWindowExpiry ∧ ∃ d g ks w, t.drive.line = .waiting ⟨d, .status g ks, w⟩ 0) ∨
        (c = .forwardTimeout ∧ ∃ d k w, t.drive.line = .waiting ⟨d, .forward k, w⟩ 0) ∨
        (∃ i, c = .profileIdleExpiry i ∧ (t.tower i).idle = some 0) ∨
        ∃ i g, c = .motionTimerExpiry i g ∧ ∃ r ∈ (t.tower i).groups, r.index = g ∧ r.motionTimer = some 0

/-- The power-on state of R21, item by item, with the values of the rules it points to: curves EMPTY (R36), towers OFF
with every setup field 0 and no records (R37), profiles EMPTY (R41), buffers empty and nothing reserved or in hand
(R15), link LOST and lamp dark (R18), counters and SheetCount 0, rotation 0 to 11, Turn SWEEP, no transaction and no
round, sweep TIMER 200 ms divider 8 with the timer at 200 (R162), STOPPED, NORMAL, sources at their defaults (R190).
Hold RELEASED with HaltPending clear stands for a HOLD input that is low (DESIGN CHOICE, log 7). -/
def Obligations.ResetIsThePowerOnState : Prop :=
  let s := State.reset
  (∀ i, s.curve i = none) ∧
    (∀ t, (s.tower t).setup = ⟨false, 0, 0, 0, 0, 0, 0, 0, 0, 0, 0, 0, 0, 0, 0, 0⟩ ∧ (s.tower t).generation = 0 ∧
      (s.tower t).phase = .off ∧ (s.tower t).staged = none ∧ (s.tower t).active = none ∧ (s.tower t).idle = none ∧
      (s.tower t).keys = [] ∧ (s.tower t).groups = []) ∧
    s.console = ⟨[], [], false, false, 0, 0, 0, .lost, none, false⟩ ∧ s.handler = ⟨none, .idle⟩ ∧
    s.drive = ⟨.free, [], [0, 1, 2, 3, 4, 5, 6, 7, 8, 9, 10, 11], .sweep, false, false⟩ ∧
    s.poller = ⟨.timer, 200, none, 8, some 200, 0, false, false, 0, [], 0, false⟩ ∧
    s.press = ⟨.stopped, .released, .normal⟩ ∧ s.sheetCount = 0 ∧
    (List.finRange 12).map (fun i => (s.source i).priority) = [0, 1, 1, 2, 2, 3, 4, 5, 5, 6, 6, 7] ∧
    (∀ i, (s.source i).mask = false ∧ (s.source i).pending = none) ∧
    s.nreset = false ∧ s.pending = []

/-- The state right after reset meets every invariant that the statements below say every step keeps. -/
def Obligations.ResetMeetsEveryInvariant : Prop :=
  State.reset.placesOk ∧ State.reset.itemsOk ∧ State.reset.pollerOk ∧ State.reset.tablesOk ∧
    State.reset.profilesOk ∧ State.reset.recordsOk ∧ State.reset.phasesOk ∧ State.reset.targetsOk ∧ State.reset.keysOk

/-! ### Frames -/

/-- A telegram with at most 120 payload bytes and the Check of R3, laid out as R2 gives, is received as itself,
whatever characters follow it before the next idle gap (R1, R2, R3). It occupies 7 bytes and its payload. What is no
valid telegram: a Check that is not the CRC, a Length above 120, a telegram cut short by an idle line or by a missing
stop bit after its start marker are invalid; a run of characters that no start marker opens is ignored (R1, R3). A
start marker without its stop bit is not covered here (log 5). -/
def Obligations.FramesReceived : Prop :=
  (∀ (dest src kind : Byte) (payload : List Byte) (after : List RxChar), payload.length ≤ 120 →
     let t : Telegram := ⟨dest, src, kind, payload, crcOf (dest :: src :: kind :: byteOf payload.length :: payload)⟩
     let frame := 0x5C :: dest :: src :: kind :: byteOf payload.length :: payload ++
       [byteOf (t.check.toNat / 256), byteOf t.check.toNat]
     receive (frame.map (fun b => ⟨b, true⟩) ++ after) = .valid t ∧ frameOf t = frame ∧
       frame.length = 7 + payload.length) ∧
  ((∀ t : Telegram, t.payload.length ≤ 120 →
       t.check ≠ crcOf (t.dest :: t.src :: t.kind :: byteOf t.payload.length :: t.payload) →
       ∀ after, receive (lineChars (frameOf t) ++ after) = .invalid) ∧
     (∀ (dest src kind len : Byte) (after : List RxChar), 120 < len.toNat →
       receive (lineChars [0x5C, dest, src, kind, len] ++ after) = .invalid) ∧
     (∀ t : Telegram, t.payload.length ≤ 120 → ∀ n, 1 ≤ n → n < (frameOf t).length →
       receive ((lineChars (frameOf t)).take n) = .invalid ∧
         ∀ (b : Byte) (after : List RxChar), receive ((lineChars (frameOf t)).take n ++ ⟨b, false⟩ :: after) = .invalid) ∧
     receive [] = .ignored ∧ ∀ (b : Byte) (stop : Bool) (after : List RxChar), b ≠ 0x5C →
       receive (⟨b, stop⟩ :: after) = .ignored)

/-! ### Power and reset -/

/-- Power-on, the release of nRESET and a COLD restart that is due all establish the power-on state, with the HOLD
level as found and HaltPending set when it is ASSERTED (R21, R171); no HOLD_CHANGE is raised. nRESET asserted: a
telegram on the drive line is cut off, DLDE is released, LINEOK is dark and a waiting restart is forgotten (R18, R19,
R21). While nRESET is asserted nothing happens but its release and a power-on: no character is received, nothing is
transmitted, no sheet is counted, no timer runs (R21; log 8). That a release without an asserted nRESET and a COLD
restart that is not due change nothing is log 2, and that a restart is due once its REPLY has left the line is log 9. -/
def Obligations.PowerOnAndNreset : Prop :=
  (∀ (s : State) (h : HoldLevel),
     let on : State := { State.reset with
       press := ⟨.stopped, h, .normal⟩,
       drive := { State.reset.drive with haltPending := h == .asserted },
       pending := s.pending }
     exec (.powerOn h) s = .next on ∧
       (s.nreset = true → exec (.nresetRelease h) s = .next on) ∧
       (s.nreset = false → exec (.nresetRelease h) s = .next s) ∧
       (s.nreset = false → s.handler.restart = .due .cold → exec (.coldRestart h) s = .next on) ∧
       (s.ready → s.handler.restart ≠ .due .cold → exec (.coldRestart h) s = .next s)) ∧
  (∀ s : State, s.ready →
     exec .nresetAssert s = .next { s with
       nreset := true,
       console := { s.console with lineok := false },
       handler := { s.handler with restart := .idle },
       drive := { s.drive with
         dlde := false,
         line := if s.drive.line.isSending then .free else s.drive.line } }) ∧
  (∀ s : State, s.nreset = true →
     (∀ c, (∀ h, c ≠ .powerOn h) → (∀ h, c ≠ .nresetRelease h) → exec c s = .next s) ∧
       (s.pending = [] → step s = .next s))

/-- A WARM restart that is due, block by block (R20, and R14, R15, R18, R37, R41, R123, R129, R132, R133, R161, R171,
R178, R190). -/
def Obligations.WarmRestart : Prop :=
  ∀ (s : State) (h : HoldLevel), s.ready → s.handler.restart = .due .warm →
    ∃ n, exec (.warmRestart h) s = .next n ∧
      n.console = { s.console with tx := [], reservedHandler := false, reservedForward := false } ∧
      n.handler = ⟨none, .idle⟩ ∧ n.curves = s.curves ∧ n.sheetCount = s.sheetCount ∧ n.pending = s.pending ∧
      n.nreset = false ∧ n.attention = Attention.fresh ∧ n.press = ⟨s.press.state, h, .normal⟩ ∧
      n.drive = { s.drive with
        forward := [], haltPending := h == .asserted,
        line := (match s.drive.line with
          | .sending what t _ => .sending what t true
          | .gap k => .gap k
          | _ => .free) } ∧
      (∀ i, (s.tower i).setup.enabled = false → n.tower i = { s.tower i with staged := none, idle := none }) ∧
      (∀ i, (s.tower i).setup.enabled = true →
        let w := s.tower i
        (n.tower i).setup = w.setup ∧ (n.tower i).active = w.active ∧ (n.tower i).staged = none ∧
          (n.tower i).idle = none ∧ (n.tower i).generation = (w.generation + 1) % 256 ∧
          (n.tower i).phase = (n.tower i).derivedPhase ∧
          (n.tower i).keys = w.keys.map (fun k => ⟨k.index, computeKey w (s.curve w.setup.curveId) k, k.keyTrim, k.corr,
            none, none, .unknown, 0, none⟩) ∧
          (n.tower i).groups = w.groups.map (fun r => ⟨r.index, .present, 0, false, false, none,
            (w.generation + 1) % 256, r.timeouts⟩)) ∧
      n.poller = { s.poller with
        roundNumber := (s.poller.roundNumber + 1) % 65536, roundPending := false, cursor := 0, inHand := false,
        roundActive := n.poller.roundActive, pollList := n.poller.pollList } ∧
      n.poller.roundActive = !n.poller.pollList.isEmpty ∧
      n.poller.pollList = allTowers.flatMap fun i =>
        if (n.tower i).setup.enabled then
          (n.tower i).groups.map fun r => ⟨i, r.index, nodeAddress i r.index, (n.tower i).generation⟩
        else []

/-! ### The console line and the Management Handler -/

/-- A valid telegram on the console line restarts the silence timer or restores the link with the lamp lit, and is
placed at the tail of the inbound buffer, or counted as an overrun with LINE_ERROR when the buffer holds 4. At a
restoration one notice follows for the selected source, when 4 places are free; nothing else changes (R6, R16, R17,
R185). An invalid telegram on the console line: one added to CheckErrors, saturating, and LINE_ERROR raised with no
detail; the link and the silence timer are left alone (R6). The silence timer expires: the link is LOST, the lamp
dark, the timer stopped, the forward queue flushed, and LINK_LOST latched without a notice; a transaction on the drive
line is not cut short (R16, R143, R185). While the link is LOST no timer runs and nothing happens. That an expiry
while LOST does nothing is log 2, that a LINE_ERROR of the arrival that restores the link is latched before the notice
is chosen, and judged after it, is log 11. -/
def Obligations.ConsoleLine : Prop :=
  (∀ (s : State) (chars : List RxChar) (t : Telegram), s.ready → receive chars = .valid t →
     let up : State := { s with console := { s.console with
       link := .up, lineok := true, silence := some 1000, inbound := s.console.inbound ++ [t] } }
     let full : State := { s with console := { s.console with
       link := .up, lineok := true, silence := some 1000, overruns := satAdd s.console.overruns } }
     (s.console.link = .up → s.console.inbound.length < 4 → exec (.consoleTelegramReceived chars) s = .next up) ∧
       (s.console.link = .up → 4 ≤ s.console.inbound.length →
         exec (.consoleTelegramReceived chars) s = .next (full.occurred srcLineError .none)) ∧
       (s.console.link = .lost → s.console.inbound.length < 4 →
         exec (.consoleTelegramReceived chars) s = .next (up.restorationNotice)) ∧
       (s.console.link = .lost → 4 ≤ s.console.inbound.length →
         exec (.consoleTelegramReceived chars) s =
           .next ((full.raiseAll [(srcLineError, .none)]).restorationNotice).judgeNotices)) ∧
  (∀ (s : State) (chars : List RxChar), s.ready → receive chars = .invalid →
     exec (.consoleTelegramInvalid chars) s =
       .next (({ s with console := { s.console with
         checkErrors := if s.console.checkErrors < 65535 then s.console.checkErrors + 1 else s.console.checkErrors } }
         : State).occurred srcLineError .none)) ∧
  (∀ s : State, s.ready →
     (s.console.link = .up → exec .silenceTimerExpiry s = .next { s with
       console := { s.console with link := .lost, lineok := false, silence := none },
       drive := { s.drive with forward := [] },
       attention := ⟨s.attention.sources.set srcLinkLost ((s.source srcLinkLost).after .none), []⟩ }) ∧
     (s.console.link = .lost → exec .silenceTimerExpiry s = .next s))

/-- The source that a restored link and an ATTENTION_POLL select: pending and unmasked, of the lowest Priority number,
and of the lowest source number among those (R17, R188). The notice of a restored link carries its fields as they
stand, needs 4 free places and clears nothing (R17, R185). -/
def Obligations.SelectedSource : Prop :=
  ∀ s : State,
    (∀ i, s.selectSource = some i ↔
      ((s.source i).pending.isSome = true ∧ (s.source i).mask = false) ∧
        ∀ j, (s.source j).pending.isSome = true → (s.source j).mask = false →
          (s.source i).priority < (s.source j).priority ∨
            ((s.source i).priority = (s.source j).priority ∧ i ≤ j)) ∧
      (s.selectSource = none ↔ ∀ j, (s.source j).pending.isSome = true → (s.source j).mask = true) ∧
      (∀ i o, s.selectSource = some i → (s.source i).pending = some o → 4 ≤ s.console.freePlaces →
        s.restorationNotice = { s with console := { s.console with tx := s.console.tx ++
          [makeTelegram 0x01 0x08 0x82 (noticeFields i (s.source i).priority o)] } }) ∧
      (s.selectSource = none ∨ s.console.freePlaces < 4 → s.restorationNotice = s)

/-- The Management Handler takes the oldest inbound telegram when it holds none, waits for no restart and a place is
free, and reserves that place. A telegram to the ZK412 of a kind of Table 1-2 waits in hand for its kind's command;
one of any other kind is refused with UNKNOWN_KIND; a QUERY whose target byte is not in Table 10-2 is refused by a
QUERY_DATA with BAD_FIELD and empty Data, or with BAD_LENGTH when its Length is not 1 to 5 (R10, R191; log 4); a
Destination outside the ZK412, the drive range and broadcast is refused with NO_ROUTE, its Destination as Data, and
counted (R8, R9, R10). When a condition fails, nothing is taken (R8). That the telegram waits in hand for the command
of its kind is the model's reading of the table (log 3). -/
def Obligations.HandlerTakesAndRefuses : Prop :=
  ∀ (s : State), s.ready →
    (∀ (t : Telegram) (rest : List Telegram), s.console.inbound = t :: rest → s.handler.hand = none →
      s.handler.restart = .idle → 1 ≤ s.console.freePlaces →
      let taken : State := { s with console := { s.console with inbound := rest } }
      (∀ c, t.dest = 0x08 → executes c t = true → exec .handlerTake s = .next { s with
        console := { s.console with inbound := rest, reservedHandler := true },
        handler := { s.handler with hand := some t } }) ∧
      (t.dest = 0x08 → (∀ k : Kind, t.kind ≠ k.code) →
        exec .handlerTake s = .next (taken.replied t .unknownKind [])) ∧
      (t.dest = 0x08 → t.kind = 0x58 → (∀ x : Target, t.payload.head? ≠ some x.code) →
        exec .handlerTake s = .next (taken.answered 0x81 t
          (if 1 ≤ t.payload.length ∧ t.payload.length ≤ 5 then .badField else .badLength) [])) ∧
      (t.dest ≠ 0x08 → ¬ (0x20 ≤ t.dest.toNat ∧ t.dest.toNat ≤ 0x4F) → t.dest ≠ 0xFF →
        exec .handlerTake s = .next
          (({ taken with console := { taken.console with
            noRouteCount := satAdd s.console.noRouteCount } } : State).replied t .noRoute [t.dest]))) ∧
    (s.console.inbound = [] ∨ s.handler.hand.isSome = true ∨ s.handler.restart ≠ .idle ∨ s.console.freePlaces = 0 →
      exec .handlerTake s = .next s)

/-- A telegram to a drive node or to broadcast is offered to the forward queue: discarded while the link is LOST; a
MOVE refused with HOLD_ACTIVE while HOLD is asserted; refused with FWD_FULL and FWD_OVERFLOW raised when 8 are held;
appended otherwise with the reserved place released (R8, R12, R139). -/
def Obligations.HandlerForwards : Prop :=
  ∀ (s : State) (t : Telegram) (rest : List Telegram) (detail : Detail), s.ready → s.console.inbound = t :: rest →
    s.handler.hand = none → s.handler.restart = .idle → 1 ≤ s.console.freePlaces →
    (t.dest = 0xFF ∧ detail = .none ∨ ∃ i g, t.dest = nodeAddress i g ∧ detail = .group i g) →
    let taken : State := { s with
      console := { s.console with inbound := rest, reservedHandler := false } }
    exec .handlerTake s = .next
      (if s.console.link = .lost then taken
      else if t.kind = 0x90 ∧ s.press.hold = .asserted then taken.replied t .holdActive [t.dest]
      else if 8 ≤ s.drive.forward.length then
        (taken.replied t .fwdFull [t.dest]).occurred srcFwdOverflow detail
      else { taken with drive := { s.drive with forward := s.drive.forward ++ [t] } })

/-- Each telegram addressed to the ZK412 is answered with exactly one telegram, QUERY_DATA for a QUERY and REPLY for
every other kind, whose first byte echoes the Kind; it joins the tail of the transmit queue before any notice that the
telegram caused, takes over the reserved place, and the Handler then holds nothing (R11). The command that executes a
telegram is the one of its kind (log 3). -/
def Obligations.EachTelegramHasOneAnswer : Prop :=
  ∀ (c : Instr) (s : State) (t : Telegram), s.ready → s.handler.hand = some t → executes c t = true →
    ∃ (n : State) (answer : Telegram) (notices : List Telegram), exec c s = .next n ∧
      n.console.tx = s.console.tx ++ answer :: notices ∧ n.handler.hand = none ∧ n.console.reservedHandler = false ∧
      answer.dest = 0x01 ∧ answer.src = 0x08 ∧ answer.kind = (if t.kind = 0x58 then 0x81 else 0x80) ∧
      answer.payload.head? = some t.kind ∧ 2 ≤ answer.payload.length ∧
      ∀ m ∈ notices, m.kind = 0x82 ∧ m.dest = 0x01 ∧ m.src = 0x08 ∧ m.payload.length = 6

/-- A telegram whose Length its kind does not permit is refused with BAD_LENGTH and empty Data, and nothing else
changes; for a QUERY the Length is the one Table 10-2 gives for its target (R10, R191). A refusal, from the Length
check or from the rules of a kind, leaves every item of state as it was but for its answer: a result code of 0x10 and
above in the answer means that nothing else changed. PROFILE_BEGIN is held to this when no load is open, because R43
breaks an open load before the Begin is judged (R10). -/
def Obligations.RefusalsChangeNothing : Prop :=
  (∀ (c : Instr) (s : State) (t : Telegram), s.ready → s.handler.hand = some t → executes c t = true →
     ((∀ k : Kind, t.kind = k.code → k ≠ .query → k.lengthOk t.payload.length = false →
       exec c s = .next (s.replied t .badLength [])) ∧
     ∀ x : Target, t.kind = 0x58 → t.payload.head? = some x.code → t.payload.length ≠ x.length →
       exec c s = .next (s.answered 0x81 t .badLength []))) ∧
  (∀ (c : Instr) (s n : State) (t answer : Telegram) (notices : List Telegram), s.ready → s.handler.hand = some t →
     executes c t = true → (c = .profileBegin → ∀ i, (s.tower i).loading = none) → exec c s = .next n →
     n.console.tx = s.console.tx ++ answer :: notices → 0x10 ≤ byteAt answer.payload 1 →
     notices = [] ∧ n = { s with
       console := { s.console with tx := s.console.tx ++ [answer], reservedHandler := false },
       handler := { s.handler with hand := none } })

/-- An accepted RESTART is answered OK with empty Data, and the Handler waits until that REPLY, the last telegram of
the transmit queue, has left the line; a payload byte other than 0x01 and 0x02 is refused with BAD_FIELD (R19). The
oldest telegram of the transmit queue has left the line and is removed; a restart that waits for its REPLY counts the
telegrams up to it and is due when it has left (R13, R19). That CONSOLE_TRANSMIT_DONE of the REPLY makes the restart
due is log 9. -/
def Obligations.RestartAndTransmit : Prop :=
  (∀ (s : State) (t : Telegram) (b : Byte), s.holds .restart t → t.payload = [b] →
     let waits (k : RestartKind) : State :=
       { s.replied t .ok [] with handler := ⟨none, .waiting k (s.console.tx.length + 1)⟩ }
     (b = 0x01 → exec .restart s = .next (waits .warm)) ∧ (b = 0x02 → exec .restart s = .next (waits .cold)) ∧
       (b ≠ 0x01 → b ≠ 0x02 → exec .restart s = .next (s.replied t .badField []))) ∧
  (∀ (s : State) (t : Telegram) (rest : List Telegram), s.ready → s.console.tx = t :: rest →
     exec .consoleTransmitDone s = .next { s with
       console := { s.console with tx := rest },
       handler := { s.handler with restart := match s.handler.restart with
         | .waiting k 0 => .due k
         | .waiting k 1 => .due k
         | .waiting k (n + 2) => .waiting k (n + 1)
         | r => r } })

/-! ### Towers and curves -/

/-- An accepted TOWER_SETUP, its payload the tower number and the sixteen fields in the layout of Table 2-1, each in
its range and CurveId naming a LOADED curve when the tower is enabled: the tower is replaced whole, with fresh records
and the next Generation; the Poller passes stale entries while a round is active with no entry in hand, ending the
round when none is left, and takes a forced trigger after that when the tower is enabled; the REPLY carries the tower
and the new Generation and comes before the notice of a SWEEP_OVERRUN (R22, R23, R24, R26, R152, R157). `passed` is
the state after the passing. Nothing else changes. -/
def Obligations.TowerSetupAccepted : Prop :=
  ∀ (s passed : State) (t : Telegram) (i : TowerIx) (u : Setup), s.holds .towerSetup t → u.inRanges →
    (u.enabled = true → (s.curve u.curveId).isSome = true) → t.payload = byteOf i.val :: setupBytes u →
    let generation := ((s.tower i).generation + 1) % 256
    let w : Tower := ⟨u, generation, if u.enabled then .idle else .off, none, none, none,
      if u.enabled then (List.range' 1 u.keyCount).map fun k => ⟨k, none, 0, 0, none, none, .unknown, 0, none⟩ else [],
      if u.enabled then
        (allGroups.filter fun g => 12 * g.val < u.keyCount).map
          fun g => ⟨g, .present, 0, false, false, none, generation, 0⟩
      else []⟩
    let p := s.poller
    let v : State := { s with towers := s.towers.set i w }
    let current (e : PollEntry) : Prop := ∃ r, (v.tower e.tower).groups.find? (fun r => r.index = e.group) = some r ∧
      r.generation = e.generation
    let ended : State := { v with poller := { p with
      roundActive := false, roundPending := false, pollList := [], cursor := 0, inHand := false } }
    ((p.roundActive = false ∨ p.inHand = true) ∧ passed = v ∨
      p.roundActive = true ∧ p.inHand = false ∧
        ((∃ n e, p.cursor ≤ n ∧ p.pollList[n]? = some e ∧ current e ∧
            (∀ m x, p.cursor ≤ m → m < n → p.pollList[m]? = some x → ¬ current x) ∧
            passed = { v with poller := { p with cursor := n } }) ∨
          (∀ m x, p.cursor ≤ m → p.pollList[m]? = some x → ¬ current x) ∧
            passed = if p.roundPending then ended.startRound else ended)) →
    let asked := if u.enabled then passed.trigger else passed
    ∃ n notices, exec .towerSetup s = .next n ∧
      n = (asked.replied t .ok [byteOf i.val, byteOf generation]).judgeNotices ∧
      n.tower i = w ∧ (∀ j, j ≠ i → n.tower j = s.tower j) ∧
      n.console = { s.console with reservedHandler := false, tx := (s.console.tx ++
        makeTelegram 0x01 0x08 0x80 [0x10, 0x00, byteOf i.val, byteOf generation] :: notices) } ∧
      (∀ m ∈ notices, m.kind = 0x82) ∧ n.handler = { s.handler with hand := none } ∧
      n.poller = asked.poller ∧
      (∀ j, j ≠ srcSweepOverrun ∨ u.enabled = false → n.source j = s.source j) ∧ n.attention.due = [] ∧
      (n.nreset, n.curves, n.sheetCount, n.drive, n.press, n.pending) =
        (s.nreset, s.curves, s.sheetCount, s.drive, s.press, s.pending)

/-- An accepted CURVE_LOAD, its payload the curve, RefSweep and the points in the layout of R32: the record is
replaced whole, and every key of each enabled tower that uses the curve is recomputed and its outcome applied, the
others left alone; the REPLY names the curve and the towers recomputed. TOWER_READY occurs once for each tower that
enters READY, in ascending order, and is judged after the REPLY (R31, R32, R34, R35, R77). -/
def Obligations.CurveLoadAccepted : Prop :=
  ∀ (s : State) (t : Telegram) (i : CurveIx) (c : Curve), s.holds .curveLoad t → c.ok →
    t.payload = byteOf i.val :: byteOf c.refSweep :: c.points.flatMap (fun p => be16 p.coverage ++ be16 p.opening) →
    let loaded : State := { s with curves := s.curves.set i (some c) }
    ∃ n notices mask, exec .curveLoad s = .next n ∧ n.curves = loaded.curves ∧ mask < 4096 ∧
      (let entered := (List.finRange 12).filter fun j => (n.tower j).phase = .ready ∧ (s.tower j).phase ≠ .ready
      n = ((({ loaded with towers := n.towers } : State).replied t .ok (byteOf i.val :: be16 mask)).raiseAll
        (entered.map fun j => (srcTowerReady, Detail.tower j))).judgeNotices) ∧
      (∀ j : TowerIx, mask.testBit j.val = ((s.tower j).setup.enabled && (s.tower j).setup.curveId == i)) ∧
      (∀ j : TowerIx, n.tower j = if mask.testBit j.val then
          (s.tower j).withKeys ((s.tower j).keys.map (loaded.keyRecomputed j (s.tower j)))
        else s.tower j) ∧
      n.console = { s.console with reservedHandler := false, tx := (s.console.tx ++
        makeTelegram 0x01 0x08 0x80 ([0x11, 0x00, byteOf i.val] ++ be16 mask) :: notices) } ∧
      (∀ m ∈ notices, m.kind = 0x82) ∧ n.handler = { s.handler with hand := none } ∧
      (∀ j, j ≠ srcTowerReady → n.source j = s.source j) ∧ n.attention.due = [] ∧
      (n.nreset, n.sheetCount, n.drive, n.poller, n.press, n.pending) =
        (s.nreset, s.sheetCount, s.drive, s.poller, s.press, s.pending)

/-- The first field of a TOWER_SETUP that is out of its range refuses it with BAD_FIELD and that field's number as
Data: the fields before it are those of a setup in the ranges, the field itself is not (R22). What refuses a
CURVE_LOAD, in order: a curve number above 15 (Data 0xFF), a RefSweep outside 20..100 (Data 0xFE), and the first point
that fails, by its index: a first Coverage that is not 0, one not greater than the one before, a last Coverage that is
not 1000, an Opening above 4000 (R32, R33). -/
def Obligations.SetupAndCurveRefused : Prop :=
  (∀ (s : State) (t : Telegram) (checks : List Bool) (n : Nat), s.holds .towerSetup t →
     (let p := t.payload
     checks = ([byteAt p 0 ≤ 11, byteAt p 1 ≤ 1, 8 ≤ byteAt p 2 && byteAt p 2 ≤ 48, 200 ≤ u16At p 3 && u16At p 3 ≤ 600,
       -2000 ≤ s16At p 5 && s16At p 5 ≤ 2000,
       (match curveOf (byteAt p 7) with
         | some c => byteAt p 1 == 0 || (s.curve c).isSome
         | none => false),
       u16At p 8 ≤ 400, 2 ≤ byteAt p 10 && byteAt p 10 ≤ 40, 1 ≤ byteAt p 11 && byteAt p 11 ≤ 50,
       1 ≤ byteAt p 12 && byteAt p 12 ≤ 30, u16At p 13 ≤ 400, byteAt p 15 ≤ 50, u16At p 16 ≤ 400, u16At p 18 ≤ 1000,
       byteAt p 20 ≤ 255, 20 ≤ byteAt p 21 && byteAt p 21 ≤ 100, 50 ≤ byteAt p 22 && byteAt p 22 ≤ 200] : List Bool)) →
     checks[n]? = some false → (∀ m, m < n → checks[m]? = some true) →
     exec .towerSetup s = .next (s.replied t .badField [byteOf n])) ∧
  (∀ (s : State) (t : Telegram) (i ref : Byte) (points : List Point), s.holds .curveLoad t →
     t.payload = i :: ref :: points.flatMap (fun p => be16 p.coverage ++ be16 p.opening) →
     (∀ p ∈ points, p.coverage < 65536 ∧ p.opening < 65536) →
     (15 < i.toNat → exec .curveLoad s = .next (s.replied t .badField [0xFF])) ∧
       (i.toNat ≤ 15 → ¬ (20 ≤ ref.toNat ∧ ref.toNat ≤ 100) →
         exec .curveLoad s = .next (s.replied t .badField [0xFE])) ∧
       ∀ n, i.toNat ≤ 15 → 20 ≤ ref.toNat → ref.toNat ≤ 100 → n < points.length →
         (let fails (m : Nat) : Prop := ∃ p, points[m]? = some p ∧
           ((m = 0 ∧ p.coverage ≠ 0) ∨ (m + 1 = points.length ∧ p.coverage ≠ 1000) ∨
             (∃ q, 1 ≤ m ∧ points[m - 1]? = some q ∧ p.coverage ≤ q.coverage) ∨ 4000 < p.opening)
         fails n ∧ ∀ m, m < n → ¬ fails m) →
         exec .curveLoad s = .next (s.replied t .badField [byteOf n]))

/-- An accepted TOWER_TRIM stores Sweep clamped to 20..100 and TowerTrim clamped to 50..200 and, when either differs
from the value it replaces, recomputes every key of the tower; the REPLY is CLAMPED when a value was clamped and
carries the values stored (R27, R28). An OFF tower and a tower number above 11 refuse it. -/
def Obligations.TowerTrimExecuted : Prop :=
  ∀ (s : State) (t : Telegram) (i a b : Byte), s.holds .towerTrim t → t.payload = [i, a, b] →
    (11 < i.toNat → exec .towerTrim s = .next (s.replied t .badField [i])) ∧
      ∀ j : TowerIx, j.val = i.toNat →
        let w := s.tower j
        let sweep := max 20 (min 100 a.toNat)
        let trim := max 50 (min 200 b.toNat)
        let r : Result := if sweep = a.toNat ∧ trim = b.toNat then .ok else .clamped
        let v : Tower := { w with setup := { w.setup with sweep := sweep, towerTrim := trim } }
        let u := v.withKeys (w.keys.map (s.keyRecomputed j v))
        (w.setup.enabled = false → exec .towerTrim s = .next (s.replied t .towerOff [i])) ∧
          (w.setup.enabled = true → sweep = w.setup.sweep → trim = w.setup.towerTrim →
            exec .towerTrim s = .next (s.replied t r [i, byteOf sweep, byteOf trim])) ∧
          (w.setup.enabled = true → ¬ (sweep = w.setup.sweep ∧ trim = w.setup.towerTrim) →
            exec .towerTrim s = .next ((({ s with towers := s.towers.set j u } : State).replied t r
              [i, byteOf sweep, byteOf trim]).phaseChanged j w.phase u.phase))

/-! ### Profiles and job change -/

/-- A PROFILE_BEGIN whose header is in the ranges of Table 3-2, for an enabled tower. In FULL mode, and in DELTA mode
over a COMPLETE profile of the same geometry, it opens a load: zones 0 or kept, marks clear, LoadPointer and counters
0, idle timer 2000 ms. A load that is open is broken first, becoming PARTIAL with PROFILE_PARTIAL raised, also when
the DELTA Begin is then refused with NOT_COMPLETE; another geometry is refused with GEOMETRY_MISMATCH (R42, R43, R44,
R45). A header that fails is refused first, in the order of Table 3-2: a Tower above 11, a Tower that is OFF, and the
first of fields 1 to 7 out of its range by its number; such a Begin changes nothing, an open load of the tower and its
idle timer included (R42). -/
def Obligations.ProfileBeginExecuted : Prop :=
  (∀ (s : State) (t : Telegram) (i : TowerIx) (b : ProfileBody), s.holds .profileBegin t →
     (s.tower i).setup.enabled = true → b.ok → b.clampedCount = 0 → b.overrunCount = 0 →
     t.payload = byteOf i.val :: loadModeCode b.mode :: be16 b.job ++ byteOf b.zoneCount :: be16 b.zonePitch ++
       be16s b.zoneOrigin ++ be16 b.sheetLeft ++ be16 b.sheetRight →
     let w := s.tower i
     let opened (zones : List Nat) : Tower := { w with
       staged := some ⟨.loading, { b with zones := zones }, List.replicate b.zoneCount false, 0⟩, idle := some 2000 }
     let with' (v : Tower) : State := { s with towers := s.towers.set i v }
     let broken (u : State) : State := if w.loading.isSome then u.occurred srcProfilePartial (.tower i) else u
     (b.mode = .full → exec .profileBegin s =
       .next (broken ((with' (opened (List.replicate b.zoneCount 0))).replied t .ok [byteOf i.val]))) ∧
     (∀ q, b.mode = .delta → w.staged = some q → q.status = .complete → q.body.zoneCount = b.zoneCount →
       q.body.zonePitch = b.zonePitch → q.body.zoneOrigin = b.zoneOrigin →
       exec .profileBegin s = .next ((with' (opened q.body.zones)).replied t .ok [byteOf i.val])) ∧
     (∀ q, b.mode = .delta → w.staged = some q → q.status = .complete →
       ¬ (q.body.zoneCount = b.zoneCount ∧ q.body.zonePitch = b.zonePitch ∧ q.body.zoneOrigin = b.zoneOrigin) →
       exec .profileBegin s = .next (s.replied t .geometryMismatch [byteOf i.val])) ∧
     (∀ q, b.mode = .delta → w.staged = some q → q.status = .loading →
       exec .profileBegin s = .next (broken
         ((with' { w with staged := some { q with status := .incomplete }, idle := none }).replied t .notComplete
           [byteOf i.val]))) ∧
     (b.mode = .delta → (∀ q, w.staged = some q → q.status = .incomplete) →
       exec .profileBegin s = .next (s.replied t .notComplete [byteOf i.val]))) ∧
  (∀ (s : State) (t : Telegram), s.holds .profileBegin t →
     let p := t.payload
     (11 < byteAt p 0 → exec .profileBegin s = .next (s.replied t .badField [0x00])) ∧
       ∀ i : TowerIx, i.val = byteAt p 0 →
         ((s.tower i).setup.enabled = false →
           exec .profileBegin s = .next (s.replied t .towerOff [byteOf i.val])) ∧
         ((s.tower i).setup.enabled = true → ∀ (checks : List Bool) (n : Nat),
           checks = ([byteAt p 1 ≤ 1, 1 ≤ u16At p 2, 1 ≤ byteAt p 4 && byteAt p 4 ≤ 96,
             50 ≤ u16At p 5 && u16At p 5 ≤ 600, -3000 ≤ s16At p 7 && s16At p 7 ≤ 3000, u16At p 9 ≤ 16000,
             u16At p 11 ≤ 16000 && u16At p 9 < u16At p 11] : List Bool) →
           checks[n]? = some false → (∀ m, m < n → checks[m]? = some true) →
           exec .profileBegin s = .next (s.replied t .badField [byteOf (n + 1)])))

/-- An accepted PROFILE_ZONES places its values from StartZone, or from LoadPointer when StartPresent is 0, restarts
the idle timer, ignores a lone last byte, raises ZONE_OVERRUN once when values lay beyond the last zone, and answers
with LoadPointer and the counts (R46, R47, R49, R50). What it does with the values is the second part, what refuses it
the third: a Tower above 11, a StartPresent above 1, and for an open load a StartZone that is no zone of it, with Data
0x00, 0x01 and 0x02 (R46). A run of values placed from a zone: a value 0..1000 is stored and its zone marked, one
above is stored as 1000 and counted, 65535 skips its zone, each advancing LoadPointer; a value beyond the last zone is
discarded and counted (R48, R49). Zones that the run does not reach keep value and mark, the counters saturate at
65535, and the rest of the record is kept. -/
def Obligations.ZonesPlaced : Prop :=
  (∀ (s : State) (t : Telegram) (i : TowerIx) (present start : Byte) (values : List Nat) (lone : List Byte) (q : Staged),
     s.holds .profileZones t → lone.length ≤ 1 → (∀ v ∈ values, v < 65536) →
     t.payload = byteOf i.val :: present :: start :: values.flatMap be16 ++ lone →
     (s.tower i).loading = some q → present.toNat ≤ 1 → (present = 1 → start.toNat < q.body.zoneCount) →
     let a := placeZones q (if present = 1 then some start.toNat else none) values
     let u := ({ s with towers := s.towers.set i { s.tower i with staged := some a.staged, idle := some 2000 } } : State).replied
       t (if a.clamped = 0 then .ok else .clamped) [byteOf i.val, byteOf a.staged.pointer, byteOf a.stored, byteOf a.overrun]
     exec .profileZones s = .next (if a.overrun = 0 then u else u.occurred srcZoneOverrun (.tower i))) ∧
  (∀ (q : Staged) (start : Nat) (values : List Nat), q.body.zones.length = q.body.zoneCount →
     q.written.length = q.body.zoneCount → start ≤ q.body.zoneCount →
     q.body.clampedCount ≤ 65535 → q.body.overrunCount ≤ 65535 →
     let a := placeZones q (some start) values
     placeZones q none values = placeZones q (some q.pointer) values ∧
     let reached := values.take (q.body.zoneCount - start)
     a.staged.pointer = start + reached.length ∧ a.overrun = values.length - reached.length ∧
       a.stored = reached.countP (· ≠ 65535) ∧ a.clamped = reached.countP (fun v => 1000 < v ∧ v ≠ 65535) ∧
       a.staged.status = q.status ∧
       a.staged.body = { q.body with
         zones := a.staged.body.zones, clampedCount := min 65535 (q.body.clampedCount + a.clamped),
         overrunCount := min 65535 (q.body.overrunCount + a.overrun) } ∧
       a.staged.body.zones.length = q.body.zoneCount ∧ a.staged.written.length = q.body.zoneCount ∧
       ∀ z, z < q.body.zoneCount →
         (∀ v, start ≤ z → values[z - start]? = some v → v ≠ 65535 →
           a.staged.body.zones[z]? = some (min v 1000) ∧ a.staged.written[z]? = some true) ∧
         ((z < start ∨ values[z - start]? = none ∨ values[z - start]? = some 65535) →
           a.staged.body.zones[z]? = q.body.zones[z]? ∧ a.staged.written[z]? = q.written[z]?)) ∧
  (∀ (s : State) (t : Telegram), s.holds .profileZones t →
     let p := t.payload
     (11 < byteAt p 0 → exec .profileZones s = .next (s.replied t .badField [0x00])) ∧
       (byteAt p 0 ≤ 11 → 1 < byteAt p 1 → exec .profileZones s = .next (s.replied t .badField [0x01])) ∧
       ∀ (i : TowerIx) (q : Staged), i.val = byteAt p 0 → byteAt p 1 = 1 → (s.tower i).loading = some q →
         q.body.zoneCount ≤ byteAt p 2 → exec .profileZones s = .next (s.replied t .badField [0x02]))

/-- PROFILE_END closes an open load as COMPLETE, when it is a delta load or every zone is marked, and as PARTIAL
otherwise, with PROFILE_PARTIAL raised; the idle timer's expiry closes it as PARTIAL in every mode, and does nothing
when no load is open (R51, R52, R53). Without an open load for its tower, PROFILE_ZONES and PROFILE_END are refused
with NOT_LOADING and the tower as Data, an OFF tower's included, and a PROFILE_END for a Tower above 11 with BAD_FIELD
and Data 0x00 (R46, R51). That the expiry of a stopped idle timer does nothing is log 2. -/
def Obligations.LoadClosed : Prop :=
  (∀ (s : State) (i : TowerIx), s.ready →
     let w := s.tower i
     (∀ (t : Telegram) (q : Staged), s.holds .profileEnd t → t.payload = [byteOf i.val] → w.loading = some q →
       let whole := q.body.mode = .delta ∨ ∀ m ∈ q.written, m = true
       let closed (status : StagedStatus) (code : Byte) : State :=
         ({ s with towers := s.towers.set i { w with staged := some { q with status := status }, idle := none } } :
           State).replied t .ok [byteOf i.val, code, byteOf (q.written.count true)]
       (whole → exec .profileEnd s = .next (closed .complete 3)) ∧
         (¬ whole → exec .profileEnd s = .next ((closed .incomplete 2).occurred srcProfilePartial (.tower i)))) ∧
     (∀ q, w.loading = some q → exec (.profileIdleExpiry i) s =
       .next (({ s with towers := s.towers.set i { w with staged := some { q with status := .incomplete }, idle := none } } :
         State).occurred srcProfilePartial (.tower i))) ∧
     (w.loading = none → exec (.profileIdleExpiry i) s = .next s)) ∧
  (∀ (s : State) (t : Telegram) (i : TowerIx), (s.tower i).loading = none → t.payload.head? = some (byteOf i.val) →
     (s.holds .profileZones t → byteAt t.payload 1 ≤ 1 →
       exec .profileZones s = .next (s.replied t .notLoading [byteOf i.val])) ∧
     (s.holds .profileEnd t → exec .profileEnd s = .next (s.replied t .notLoading [byteOf i.val]))) ∧
  (∀ (s : State) (t : Telegram), s.holds .profileEnd t → 11 < byteAt t.payload 0 →
     exec .profileEnd s = .next (s.replied t .badField [0x00]))

/-- An accepted JOB_COMMIT, every tower of its mask enabled with a COMPLETE profile of the job, or a PARTIAL one under
Force: each tower of the mask has its Staged profile made Active and its Staged EMPTY, every Corr 0, every KeyTrim 0
unless KeepTrims is set, every key recomputed with its outcome applied and every key that is then SETTLED noting the
present SheetCount, and its Phase derived; the other towers are left alone. TOWER_READY occurs once for each tower
that enters READY, in ascending order, and is judged after the REPLY (R31, R55 to R60, R77). That the RetryCount of a
HELD or PENDING key that the commit settles becomes 0, as R104 gives for every entry into SETTLED, where R59 says that
RetryCount is kept, is the model's reading (log 24). -/
def Obligations.JobCommitAccepted : Prop :=
  ∀ (s : State) (t : Telegram) (mask job : Nat) (keepTrims force : Bool), s.holds .jobCommit t →
    t.payload = be16 mask ++ be16 job ++ [byteOf ((if keepTrims then 1 else 0) + (if force then 2 else 0))] →
    0 < mask → mask < 4096 → 0 < job → job < 65536 → s.press.state ≠ .printing →
    (∀ i : TowerIx, mask.testBit i.val = true → (s.tower i).setup.enabled = true ∧ ∃ q, (s.tower i).staged = some q ∧
      q.status ≠ .loading ∧ (q.status = .incomplete → force = true) ∧ q.body.job = job) →
    ∃ n notices, exec .jobCommit s = .next n ∧
      (let entered := (List.finRange 12).filter fun j => (n.tower j).phase = .ready ∧ (s.tower j).phase ≠ .ready
      n = ((({ s with towers := n.towers } : State).replied t .ok (be16 mask)).raiseAll
        (entered.map fun j => (srcTowerReady, Detail.tower j))).judgeNotices) ∧
      (∀ i : TowerIx, mask.testBit i.val = false → n.tower i = s.tower i) ∧
      (∀ (i : TowerIx) (q : Staged), mask.testBit i.val = true → (s.tower i).staged = some q →
        let w := s.tower i
        let v : Tower := { w with active := some ⟨q.status == .complete, q.body⟩, staged := none }
        n.tower i = v.withKeys (w.keys.map fun k =>
          let cleared : Key := { k with corr := 0, keyTrim := if keepTrims then k.keyTrim else 0 }
          let judged := s.keyRecomputed i v cleared
          if judged.state = .settled then { judged with settledAt := some s.sheetCount } else judged)) ∧
      n.console = { s.console with reservedHandler := false, tx := (s.console.tx ++
        makeTelegram 0x01 0x08 0x80 ([0x23, 0x00] ++ be16 mask) :: notices) } ∧
      (∀ m ∈ notices, m.kind = 0x82) ∧ n.handler = { s.handler with hand := none } ∧
      (∀ j, j ≠ srcTowerReady → n.source j = s.source j) ∧ n.attention.due = [] ∧
      (n.nreset, n.curves, n.sheetCount, n.drive, n.poller, n.press, n.pending) =
        (s.nreset, s.curves, s.sheetCount, s.drive, s.poller, s.press, s.pending)

/-! ### Trims, density feedback, fault clearing -/

/-- An accepted KEY_TRIM writes the KeyTrim of each key it names, the value carried or the sum with the KeyTrim held,
clamped to −1000..+1000, recomputes those keys with their outcomes and derives the Phase once; the REPLY counts the
keys written and the keys clamped (R86, R87, R88). -/
def Obligations.KeyTrimAccepted : Prop :=
  ∀ (s : State) (t : Telegram) (i : TowerIx) (relative : Bool) (first : Nat) (values : List Int), s.holds .keyTrim t →
    let w := s.tower i
    w.setup.enabled = true → 1 ≤ first → first + values.length ≤ w.setup.keyCount + 1 → w.setup.keyCount ≤ 48 →
    w.keys.map Key.index = List.range' 1 w.setup.keyCount → (∀ v ∈ values, -32768 ≤ v ∧ v ≤ 32767) →
    t.payload = byteOf i.val :: flagByte relative :: byteOf first :: values.flatMap be16s →
    let exact (k : Key) (v : Int) : Int := if relative then k.keyTrim + v else v
    let trimmed (k : Key) : Key := match values[k.index - first]? with
      | some v => if first ≤ k.index then { k with keyTrim := max (-1000) (min 1000 (exact k v)) } else k
      | none => k
    let named (k : Key) : Bool := first ≤ k.index && k.index < first + values.length
    let u := w.withKeys (w.keys.map fun k => if named k then s.keyRecomputed i w (trimmed k) else k)
    let clamped := w.keys.countP fun k => named k && match values[k.index - first]? with
      | some v => exact k v < -1000 || 1000 < exact k v
      | none => false
    exec .keyTrim s = .next ((({ s with towers := s.towers.set i u } : State).replied t
      (if clamped = 0 then .ok else .clamped)
      [byteOf i.val, byteOf first, byteOf values.length, byteOf clamped]).phaseChanged i w.phase u.phase)

/-- What an accepted DENSITY_REPORT does at the key that a deviation names, by the first condition of R91 that holds:
the skip reasons in their order, or the correction of R93 to R95. Deviations other than the marker are clamped to
−200..+200 first (R90). -/
def Obligations.DensityGating : Prop :=
  ∀ (k : Key) (u : Setup) (sheets : Sheets) (carried : Int),
    let d := max (-200) (min 200 carried)
    let out := k.density u sheets (clampDeviation carried)
    (carried = -32768 → out = .noMeasure) ∧
      (carried ≠ -32768 →
        (k.computed = none → out = .noTarget) ∧
        ∀ c, k.computed = some c →
          (c.saturation = .closed → out = .noTarget) ∧
          (c.saturation ≠ .closed → k.state ≠ .settled → out = .notSettled) ∧
          ∀ settled, c.saturation ≠ .closed → k.state = .settled → k.settledAt = some settled →
            (sheets.toNat + (2 ^ 32 - settled.toNat)) % 2 ^ 32 < u.lagSheets ∧ out = .lag ∨
            u.lagSheets ≤ (sheets.toNat + (2 ^ 32 - settled.toNat)) % 2 ^ 32 ∧
              (d.natAbs ≤ u.deadBand ∧ out = .deadBand ∨
              u.deadBand < d.natAbs ∧
                let corr := max (-(u.corrLimit : Int)) (min u.corrLimit
                  (k.corr + antiWindup c.saturation (limitedIncrement u d)))
                (corr = k.corr ∧ out = .unchanged ∨ corr ≠ k.corr ∧ out = .changed corr)))

/-- The increment of a corrected key is minus the deviation times Gain over 10, rounded nearest with halves away from
zero and limited to StepLimit, so that equal and opposite deviations give equal and opposite increments (R93);
anti-windup then drops a positive increment of a key held at HIGH and a negative one of a key held at LOW (R94). -/
def Obligations.DensityIncrement : Prop :=
  ∀ (u : Setup) (d : Int),
    (limitedIncrement u d).natAbs ≤ u.stepLimit ∧
      (∀ n : Int, (10 * (2 * n - 1) < -(2 * d * u.gain) ∧ -(2 * d * u.gain) < 10 * (2 * n + 1)) ∨
          (0 < n ∧ -(2 * d * u.gain) = 10 * (2 * n - 1)) ∨ (n < 0 ∧ -(2 * d * u.gain) = 10 * (2 * n + 1)) →
        limitedIncrement u d = max (-(u.stepLimit : Int)) (min u.stepLimit n) ∧
          (d.natAbs ≤ 200 → u.gain ≤ 400 → (-d * u.gain).natAbs ≤ 80000 ∧ n.natAbs ≤ 8000)) ∧
      limitedIncrement u (-d) = -limitedIncrement u d ∧
      (u.gain = 0 ∨ u.stepLimit = 0 → limitedIncrement u d = 0) ∧
      ∀ i : Int, antiWindup .high i = min i 0 ∧ antiWindup .low i = max i 0 ∧ antiWindup .none i = i ∧
        antiWindup .closed i = i

/-- An accepted DENSITY_REPORT, deviation i for key FirstKey + i: each key whose Corr changes is written and
recomputed with its outcome, CORR_LIMIT occurs for each that reached its limit in key order, the Phase is derived
once, and the REPLY counts each key under one reason (R89 to R92, R95 to R98). Keys not named, skipped or unchanged
are left alone. -/
def Obligations.DensityReportAccepted : Prop :=
  ∀ (s : State) (t : Telegram) (i : TowerIx) (first : Nat) (deviations : List Int), s.holds .densityReport t →
    let w := s.tower i
    s.press.state = .printing → w.setup.enabled = true → 1 ≤ first →
    first + deviations.length ≤ w.setup.keyCount + 1 → w.setup.keyCount ≤ 48 →
    w.keys.map Key.index = List.range' 1 w.setup.keyCount → (∀ v ∈ deviations, -32768 ≤ v ∧ v ≤ 32767) →
    t.payload = byteOf i.val :: byteOf first :: deviations.flatMap be16s →
    let outcome (k : Key) : Option DensityOutcome := if first ≤ k.index then
        (deviations[k.index - first]?).map fun d => k.density w.setup s.sheetCount (clampDeviation d)
      else none
    let u := w.withKeys (w.keys.map fun k => match outcome k with
      | some (.changed corr) => s.keyRecomputed i w { k with corr := corr }
      | _ => k)
    let atLimit := w.keys.filter fun k => match outcome k with
      | some (.changed corr) => corr.natAbs == w.setup.corrLimit
      | _ => false
    let count (o : DensityOutcome) : Byte := byteOf ((w.keys.filterMap outcome).count o)
    let clamped := deviations.countP fun d => d ≠ -32768 ∧ (d < -200 ∨ 200 < d)
    let changed := w.keys.countP fun k => match outcome k with
      | some (.changed _) => true
      | _ => false
    let written : State := ({ s with towers := s.towers.set i u } : State).replied t
      (if clamped = 0 then .ok else .clamped)
      ([byteOf i.val, byteOf first, byteOf deviations.length, byteOf changed, byteOf clamped, byteOf atLimit.length,
        count .noMeasure, count .noTarget, count .notSettled, count .lag, count .deadBand, count .unchanged])
    let raised := atLimit.map (fun k => (srcCorrLimit, Detail.key i k.index)) ++
      if u.phase = .ready ∧ w.phase ≠ .ready then [(srcTowerReady, Detail.tower i)] else []
    exec .densityReport s = .next (written.raiseAll raised).judgeNotices

/-- What refuses a JOB_COMMIT, in order: an empty Mask or one with a bit above 11 (Data 0x00), a JobNumber of 0 (Data
0x01), Flags above 3 (Data 0x02), PRINTING, and the first tower of the mask in ascending order that is OFF, has no
committable Staged profile, or has one of another job (R55, R56, R57). What refuses a KEY_TRIM and a DENSITY_REPORT,
in the order of R86 and R89: the tower number, for a report PressState, the OFF tower, for a trim the mode byte, and
the run of keys. -/
def Obligations.CommitAndFeedbackRefused : Prop :=
  (∀ (s : State) (t : Telegram) (mask job : Nat) (flags : Byte), s.holds .jobCommit t →
     t.payload = be16 mask ++ be16 job ++ [flags] → mask < 65536 → job < 65536 →
     let refusedWith (r : Result) (data : List Byte) : Prop := exec .jobCommit s = .next (s.replied t r data)
     (mask = 0 ∨ 4096 ≤ mask → refusedWith .badField [0x00]) ∧
       (0 < mask → mask < 4096 → job = 0 → refusedWith .badField [0x01]) ∧
       (0 < mask → mask < 4096 → 0 < job → 4 ≤ flags.toNat → refusedWith .badField [0x02]) ∧
       (0 < mask → mask < 4096 → 0 < job → flags.toNat < 4 →
         (s.press.state = .printing → refusedWith .pressPrinting []) ∧
         ∀ (i : TowerIx) (r : Result), s.press.state ≠ .printing → mask.testBit i.val = true →
           (∀ j : TowerIx, j < i → mask.testBit j.val = true → (s.tower j).setup.enabled = true ∧ ∃ q,
             (s.tower j).staged = some q ∧ q.status ≠ .loading ∧ (q.status = .incomplete → 2 ≤ flags.toNat) ∧
             q.body.job = job) →
           ((s.tower i).setup.enabled = false ∧ r = .towerOff ∨
             (s.tower i).setup.enabled = true ∧ (s.tower i).staged = none ∧ r = .notComplete ∨
             ∃ q, (s.tower i).setup.enabled = true ∧ (s.tower i).staged = some q ∧
               ((q.status = .loading ∨ q.status = .incomplete ∧ flags.toNat < 2) ∧ r = .notComplete ∨
                 (q.status = .complete ∨ q.status = .incomplete ∧ 2 ≤ flags.toNat) ∧ q.body.job ≠ job ∧
                   r = .jobMismatch)) →
           refusedWith r [byteOf i.val])) ∧
  (∀ (s : State) (t : Telegram),
     let p := t.payload
     let trimRun := (p.length - 3) / 2
     let reportRun := (p.length - 2) / 2
     (s.holds .keyTrim t →
       (11 < byteAt p 0 → exec .keyTrim s = .next (s.replied t .badField [0x00])) ∧
       ∀ i : TowerIx, i.val = byteAt p 0 →
         ((s.tower i).setup.enabled = false → exec .keyTrim s = .next (s.replied t .towerOff [byteOf i.val])) ∧
         ((s.tower i).setup.enabled = true → 1 < byteAt p 1 → exec .keyTrim s = .next (s.replied t .badField [0x01])) ∧
         ((s.tower i).setup.enabled = true → byteAt p 1 ≤ 1 →
           byteAt p 2 = 0 ∨ (s.tower i).setup.keyCount + 1 < byteAt p 2 + trimRun →
           exec .keyTrim s = .next (s.replied t .badField [0x02]))) ∧
     (s.holds .densityReport t →
       (11 < byteAt p 0 → exec .densityReport s = .next (s.replied t .badField [0x00])) ∧
       ∀ i : TowerIx, i.val = byteAt p 0 →
         (s.press.state ≠ .printing → exec .densityReport s = .next (s.replied t .notPrinting [])) ∧
         (s.press.state = .printing → (s.tower i).setup.enabled = false →
           exec .densityReport s = .next (s.replied t .towerOff [byteOf i.val])) ∧
         (s.press.state = .printing → (s.tower i).setup.enabled = true →
           byteAt p 1 = 0 ∨ (s.tower i).setup.keyCount + 1 < byteAt p 1 + reportRun →
           exec .densityReport s = .next (s.replied t .badField [0x01]))))

/-- FAULT_CLEAR for a group or, with 0xFF, for every group of an enabled tower: each FAULT key of the scope becomes
PENDING, or HELD without a Target, with RetryCount 0; keys in other states and all groups are left alone; the REPLY
counts the keys cleared (R112, R113). -/
def Obligations.FaultClearExecuted : Prop :=
  ∀ (s : State) (t : Telegram) (i group : Byte), s.holds .faultClear t → t.payload = [i, group] →
    (11 < i.toNat → exec .faultClear s = .next (s.replied t .badField [0x00])) ∧
      ∀ j : TowerIx, j.val = i.toNat →
        let w := s.tower j
        let hit (k : Key) : Bool := (group == 0xFF || k.group == group.toNat) && k.state == .fault
        let u := w.withKeys (w.keys.map fun k =>
          if hit k then { k with state := if k.computed.isSome then .pending else .held, retry := 0 } else k)
        (w.setup.enabled = false → exec .faultClear s = .next (s.replied t .towerOff [i])) ∧
          (w.setup.enabled = true → group ≠ 0xFF → w.setup.keyCount ≤ 12 * group.toNat →
            exec .faultClear s = .next (s.replied t .badField [0x01])) ∧
          (w.setup.enabled = true → group = 0xFF ∨ 12 * group.toNat < w.setup.keyCount →
            exec .faultClear s = .next ((({ s with towers := s.towers.set j u } : State).replied t .ok
              [i, group, byteOf (w.keys.countP hit)]).phaseChanged j w.phase u.phase))

/-! ### Sweep configuration, press state, mode and HOLD -/

/-- SWEEP_CONFIG: a Source other than 0 and 1 is refused; otherwise Interval is clamped to 20..2000 and Divider to
1..64 and the stored configuration changes by the four cases of R148; no round starts, and the REPLY gives the
configuration as it then stands (R147, R148). PRESS_STATE stores 0 STOPPED, 1 MAKEREADY or 2 PRINTING from every
PressState, whatever Mode and HOLD are, and its REPLY carries the PressState before and after; any other value is
refused and changes nothing. No other item of state changes (R165, R166). -/
def Obligations.SweepAndPressConfigured : Prop :=
  (∀ (s : State) (t : Telegram) (source divider : Byte) (carried : Nat), s.holds .sweepConfig t → carried < 65536 →
     t.payload = source :: be16 carried ++ [divider] →
     (1 < source.toNat → exec .sweepConfig s = .next (s.replied t .badField [0x00])) ∧
       (source.toNat ≤ 1 →
         let p := s.poller
         let interval := max 20 (min 2000 carried)
         let div := max 1 (min 64 divider.toNat)
         let q : Poller := match p.source, source.toNat with
           | .timer, 0 => { p with divider := div, intervalPending := if interval = p.interval then none else some interval }
           | .sheet, 0 => { p with source := .timer, interval := interval, divider := div, intervalPending := none,
                                   dividerCount := 0, sweepTimer := some interval }
           | .timer, _ => { p with source := .sheet, interval := interval, divider := div, intervalPending := none,
                                   dividerCount := 0, sweepTimer := none }
           | .sheet, _ => { p with interval := interval, divider := div }
         exec .sweepConfig s = .next (({ s with poller := q } : State).replied t
           (if interval = carried ∧ div = divider.toNat then .ok else .clamped)
           ([source] ++ be16 q.interval ++ [flagByte q.intervalPending.isSome] ++ be16 (q.intervalPending.getD 0) ++
             [byteOf q.divider])))) ∧
  (∀ (s : State) (t : Telegram) (b : Byte), s.holds .pressState t → t.payload = [b] →
     (2 < b.toNat → exec .pressState s = .next (s.replied t .badField [0x00])) ∧
       ∀ new : PressState, pressCode new = b →
         exec .pressState s = .next (({ s with press := { s.press with state := new } } : State).replied t .ok
           [pressCode s.press.state, b]))

/-- MODE: the Mode in force has no effect. Entry into PASSTHROUGH makes every key of every enabled tower UNKNOWN with
RetryCount 0, FAULT and UNREACHABLE keys apart, clears Busy, derives the Phases and abandons the round, and changes
nothing on the drive line. The return to NORMAL starts a round at once. Any other value is refused (R153, R173, R174,
R175, R177). -/
def Obligations.ModeExecuted : Prop :=
  ∀ (s : State) (t : Telegram) (b : Byte), s.holds .mode t → t.payload = [b] →
    (1 < b.toNat → exec .mode s = .next (s.replied t .badField [0x00])) ∧
      (modeCode s.press.mode = b → exec .mode s = .next (s.replied t .ok [b])) ∧
      (b = 1 → s.press.mode = .normal → (∀ i, (s.tower i).setup.enabled = true → (s.tower i).keys ≠ []) →
        ∃ n, exec .mode s = .next n ∧ n.press = { s.press with mode := .passthrough } ∧
          (∀ i, (s.tower i).setup.enabled = false → n.tower i = s.tower i) ∧
          (∀ i, (s.tower i).setup.enabled = true →
            n.tower i = Tower.withKeys
              { s.tower i with groups := (s.tower i).groups.map fun r => { r with busy := false, motionTimer := none } }
              ((s.tower i).keys.map fun k => if k.state = .fault ∨ k.state = .unreachable then k
                else { k with state := .unknown, retry := 0 })) ∧
          n.poller = { s.poller with
            roundActive := false, roundPending := false, pollList := [], cursor := 0, inHand := false } ∧
          n.console = { s.console with
            reservedHandler := false, tx := (s.console.tx ++ [makeTelegram 0x01 0x08 0x80 [0x49, 0x00, 0x01]]) } ∧
          (n.nreset, n.handler, n.curves, n.sheetCount, n.drive, n.attention, n.pending) =
            (s.nreset, ⟨none, s.handler.restart⟩, s.curves, s.sheetCount, s.drive, s.attention, s.pending)) ∧
      (b = 0 → s.press.mode = .passthrough → s.poller.roundActive = false →
        exec .mode s = .next ((({ s with press := { s.press with mode := .normal } } : State).startRound).replied t .ok [b]))

/-- An assertion of HOLD: Hold ASSERTED, HaltPending set, every MOVE purged from the forward queue with a HOLD_ACTIVE
REPLY while places are free, then HOLD_CHANGE with the level as detail; what the drive line carries is left alone. A
release: Hold RELEASED and HOLD_CHANGE, HaltPending left as it is. An assertion is never taken while ASSERTED, nor a
release while RELEASED (R142, R144, R146, R167, R168, R170); that the command then changes nothing is the model's
reading (logs 2 and 14). -/
def Obligations.HoldFollowed : Prop :=
  ∀ s : State, s.ready →
    (s.press.hold = .released →
      let moves := s.drive.forward.filter fun t => t.kind == 0x90
      let replies := moves.map fun t => makeTelegram 0x01 0x08 0x80 [0x90, 0x33, t.dest]
      exec .holdAssert s = .next (({ s with
        press := { s.press with hold := .asserted },
        drive := { s.drive with haltPending := true, forward := s.drive.forward.filter fun t => t.kind != 0x90 },
        console := { s.console with tx := s.console.tx ++ replies.take s.console.freePlaces } } : State).occurred
          srcHoldChange (.level .asserted))) ∧
    (s.press.hold = .asserted → exec .holdAssert s = .next s) ∧
    (s.press.hold = .asserted → exec .holdRelease s =
      .next (({ s with press := { s.press with hold := .released } } : State).occurred srcHoldChange (.level .released))) ∧
    (s.press.hold = .released → exec .holdRelease s = .next s)

/-! ### Attention -/

/-- Several occurrences of one source in one event: the first latches its detail when the source was clear, the others
merge, saturating at 255, and one notice with the merged count joins the transmit queue at the end of the event when
the source is unmasked, the link UP and 4 places free; a pending source keeps its detail and brings no notice (R182,
R183, R184). Occurrences of different sources: each is latched or merged by itself; the sources that were clear are
judged one after another in the order in which each first became pending, and each notice needs 4 places free of those
that the notices before it left, so that with f places free the first f - 3 are sent (R183). The three bytes of a
detail are those of R184; that a tower alone has DetailKind 0 is log 21. -/
def Obligations.OccurrencesMerge : Prop :=
  (∀ (s : State) (i : SourceIx) (d : Detail) (more : List Detail), s.attention.due = [] →
     let n := (s.raiseAll ((i, d) :: more.map fun e => (i, e))).judgeNotices
     let latched : Occurrence := ⟨min 255 (1 + more.length), d⟩
     ((s.source i).pending = none →
       n = { s with
         attention := ⟨s.attention.sources.set i { s.source i with pending := some latched }, []⟩,
         console := { s.console with tx := s.console.tx ++
           if (s.source i).mask = false ∧ s.console.link = .up ∧ 4 ≤ s.console.freePlaces then
             [makeTelegram 0x01 0x08 0x82 (byteOf i.val :: byteOf (s.source i).priority ::
               (detailBytes d ++ [byteOf latched.count]))]
           else [] } }) ∧
     (∀ o, (s.source i).pending = some o → o.count ≤ 255 →
       n = { s with attention := ⟨s.attention.sources.set i { s.source i with
         pending := some { o with count := min 255 (o.count + 1 + more.length) } }, []⟩ })) ∧
  (∀ (s : State) (raised : List (SourceIx × Detail)),
     let n := s.raiseAll raised
     n = { s with attention := n.attention } ∧
       n.attention.due = s.attention.due ++
         ((raised.map Prod.fst).filter fun i => (s.source i).pending.isNone).eraseDups ∧
       ∀ i, let own := (raised.filter fun o => o.1 = i).map Prod.snd
         ((s.source i).pending = none → n.source i = { s.source i with pending := match own with
           | [] => none
           | d :: more => some ⟨min 255 (1 + more.length), d⟩ }) ∧
         ∀ o, (s.source i).pending = some o → o.count ≤ 255 →
           n.source i = { s.source i with pending := some { o with count := min 255 (o.count + own.length) } }) ∧
  (∀ s : State,
     let notices := s.attention.due.filterMap fun i => match (s.source i).pending with
       | some o => if (s.source i).mask = false then
           some (makeTelegram 0x01 0x08 0x82
             (byteOf i.val :: byteOf (s.source i).priority :: (detailBytes o.detail ++ [byteOf o.count])))
         else none
       | none => none
     s.judgeNotices = { s with
       attention := { s.attention with due := [] },
       console := { s.console with tx := s.console.tx ++
         if s.console.link = .up then notices.take (s.console.freePlaces - 3) else [] } }) ∧
  (detailBytes .none = [0xFF, 0, 0] ∧ detailBytes (.level .released) = [0xFF, 3, 0] ∧
     detailBytes (.level .asserted) = [0xFF, 3, 1] ∧
     ∀ (i : TowerIx) (g : GroupIx) (k : Nat), detailBytes (.tower i) = [byteOf i.val, 0, 0] ∧
       detailBytes (.group i g) = [byteOf i.val, 1, byteOf g.val] ∧ detailBytes (.key i k) = [byteOf i.val, 2, byteOf k])

/-- ATTENTION_CONFIG stores Priority 0..7 and Mask for a source 0..11 and leaves its pending occurrence as it is;
unmasking a pending source sends its notice after the REPLY when the link is UP and 4 places are free. Out-of-range
fields refuse it in their order (R186, R187). ATTENTION_POLL answers with the selected source's six fields as they
stood and the number of sources that remain, and clears that source, keeping its Priority and Mask; with none pending
and unmasked it answers 0xFF, 0, 0xFF, 0, 0, 0, 0 and changes no record. The poll judges no other source (R188). -/
def Obligations.AttentionCommandsExecuted : Prop :=
  (∀ (s : State) (t : Telegram) (a b c : Byte), s.holds .attentionConfig t → t.payload = [a, b, c] →
     (11 < a.toNat → exec .attentionConfig s = .next (s.replied t .badField [0x00])) ∧
     (a.toNat ≤ 11 → 7 < b.toNat → exec .attentionConfig s = .next (s.replied t .badField [0x01])) ∧
     (a.toNat ≤ 11 → b.toNat ≤ 7 → 1 < c.toNat → exec .attentionConfig s = .next (s.replied t .badField [0x02])) ∧
     ∀ i : SourceIx, i.val = a.toNat → b.toNat ≤ 7 → c.toNat ≤ 1 →
       let r := s.source i
       let u := ({ s with attention := { s.attention with
         sources := s.attention.sources.set i ⟨b.toNat, c == 1, r.pending⟩ } } : State).replied t .ok
           [a, b, c, flagByte r.pending.isSome, byteOf (match r.pending with | some o => o.count | none => 0)]
       exec .attentionConfig s = .next { u with console := { u.console with tx := u.console.tx ++
         match r.pending with
         | some o => if r.mask = true ∧ c = 0 ∧ s.console.link = .up ∧ 4 ≤ u.console.freePlaces then
             [makeTelegram 0x01 0x08 0x82 (noticeFields i b.toNat o)] else []
         | none => [] } }) ∧
  (∀ (s : State) (t : Telegram), s.holds .attentionPoll t →
     (s.selectSource = none →
       exec .attentionPoll s = .next (s.replied t .ok [0xFF, 0, 0xFF, 0, 0, 0, 0])) ∧
     ∀ i o, s.selectSource = some i → (s.source i).pending = some o →
       let remaining := (List.finRange 12).countP fun j =>
         j != i && (s.source j).pending.isSome && !(s.source j).mask
       exec .attentionPoll s = .next (({ s with attention := { s.attention with
         sources := s.attention.sources.set i { s.source i with pending := none } } } : State).replied t .ok
           (byteOf i.val :: byteOf (s.source i).priority ::
             (detailBytes o.detail ++ [byteOf o.count, byteOf remaining]))))

/-! ### Queries -/

/-- QUERY of DEVICE, CURVE and COUNTERS with the Lengths of Table 10-2: a snapshot in the layout of the target's
table, or for a curve number above 15 a refusal with empty Data, and no change but the answer (R191, R192, R197,
R198). Each target has its own command (log 3). -/
def Obligations.PartQueriesAnswered : Prop :=
  ∀ (s : State) (t : Telegram), s.holds .query t →
    (t.payload = [0x00] → ∃ d, exec .queryDevice s = .next (s.answered 0x81 t .ok d) ∧
      (s.drive.rotation.length = 12 → d.length = 46) ∧
      d.take 8 = [0x04, 0x12, 0x01, pressCode s.press.state, modeCode s.press.mode, holdCode s.press.hold,
        flagByte s.drive.haltPending, linkCode s.console.link] ∧
      (d.drop 8).take 4 = be32 s.sheetCount.toNat ∧ (d.drop 12).take 3 =
        sweepSourceCode s.poller.source :: be16 s.poller.interval ∧
      (d.drop 15).take 4 = flagByte s.poller.intervalPending.isSome :: be16 (s.poller.intervalPending.getD 0) ++
        [byteOf s.poller.divider] ∧
      (d.drop 19).take 4 = be16 s.poller.roundNumber ++
        [byteOf ((if s.poller.roundActive then 1 else 0) + if s.poller.roundPending then 2 else 0),
          turnCode s.drive.turn] ∧
      (s.drive.rotation.length = 12 → (d.drop 23).take 12 = s.drive.rotation.map (fun i => byteOf i.val) ∧
        (∀ i : SourceIx, (u16At d 35).testBit i.val = (s.source i).pending.isSome ∧
          (u16At d 37).testBit i.val = (s.source i).mask) ∧
        (∀ j : Fin 6, (∀ i, (s.source i).priority ≤ 7) → byteAt d (39 + j.val) =
          16 * (s.source ⟨2 * j.val, by omega⟩).priority + (s.source ⟨2 * j.val + 1, by omega⟩).priority) ∧
        ∀ j : TowerIx, j.val < 8 → (byteAt d 45).testBit j.val = (s.tower j).setup.enabled)) ∧
    (∀ c : Byte, t.payload = [0x05, c] →
      (15 < c.toNat → exec .queryCurve s = .next (s.answered 0x81 t .badField [])) ∧
      ∀ i : CurveIx, i.val = c.toNat →
        (s.curve i = none → exec .queryCurve s = .next (s.answered 0x81 t .ok [c, 0, 0, 0])) ∧
        ∀ k, s.curve i = some k → exec .queryCurve s = .next (s.answered 0x81 t .ok
          ([c, 1, byteOf k.refSweep, byteOf k.points.length] ++
            k.points.flatMap fun p => be16 p.coverage ++ be16 p.opening))) ∧
    (t.payload = [0x06] → ∃ d, exec .queryCounters s = .next (s.answered 0x81 t .ok d) ∧ d.length = 108 ∧
      d.take 6 = be16 s.console.checkErrors ++ be16 s.console.overruns ++ be16 s.console.noRouteCount ∧
      ∀ (i : TowerIx) (g : GroupIx),
        (byteAt d (6 + (4 * i.val + g.val) / 8)).testBit ((4 * i.val + g.val) % 8) =
          ((s.tower i).groups.find? fun r => r.index = g).isSome ∧
        (d.drop (12 + 2 * (4 * i.val + g.val))).take 2 =
          be16 (match (s.tower i).groups.find? fun r => r.index = g with | some r => r.timeouts | none => 0))

/-- QUERY of TOWER, KEYS and GROUPS with the Lengths of Table 10-2: the checks of each target in their order, the
snapshot of an accepted one, and no change but the answer (R191, R193, R194, R195). -/
def Obligations.TowerQueriesAnswered : Prop :=
  ∀ (s : State) (t : Telegram) (b : Byte), s.holds .query t → t.payload[1]? = some b →
    (t.payload = [0x01, b] →
      (11 < b.toNat → exec .queryTower s = .next (s.answered 0x81 t .badField [])) ∧
      ∀ i : TowerIx, i.val = b.toNat → exec .queryTower s = .next (s.answered 0x81 t .ok
        (b :: setupBytes (s.tower i).setup ++ [byteOf (s.tower i).generation, phaseCode (s.tower i).phase,
          stagedCode (s.tower i).staged, activeCode (s.tower i).active]))) ∧
    (∀ first count : Byte, t.payload = [0x02, b, first, count] →
      (11 < b.toNat → exec .queryKeys s = .next (s.answered 0x81 t .badField [])) ∧
      ∀ i : TowerIx, i.val = b.toNat →
        let w := s.tower i
        (w.setup.enabled = false → exec .queryKeys s = .next (s.answered 0x81 t .towerOff [])) ∧
        (w.setup.enabled = true → (count = 0 ∨ 5 < count.toNat ∨ first = 0 ∨
            w.setup.keyCount < first.toNat + count.toNat - 1) →
          exec .queryKeys s = .next (s.answered 0x81 t .badField [])) ∧
        (w.setup.enabled = true → count ≠ 0 → count.toNat ≤ 5 → first ≠ 0 →
          first.toNat + count.toNat - 1 ≤ w.setup.keyCount →
          ∃ d, exec .queryKeys s = .next (s.answered 0x81 t .ok (b :: first :: count :: d)) ∧
            (w.keys.length = w.setup.keyCount → d.length = 22 * count.toNat) ∧
            ∀ (m : Nat) (k : Key), m < count.toNat → w.keys[first.toNat - 1 + m]? = some k →
              let e := (d.drop (22 * m)).take 22
              ((byteAt e 0).testBit 0 = k.computed.isSome ∧ (byteAt e 0).testBit 1 = k.sentTarget.isSome ∧
                (byteAt e 0).testBit 2 = k.lastReported.isSome ∧ (byteAt e 0).testBit 3 = k.settledAt.isSome) ∧
              (e.drop 1).take 2 = [keyStateCode k.state, byteOf k.retry] ∧
              (∀ c, k.computed = some c → (e.drop 3).take 7 = be16 c.coverage ++ be16 c.curveOpening ++
                be16 c.target ++ [saturationCode c.saturation]) ∧
              (k.computed = none → (e.drop 3).take 7 = [0, 0, 0, 0, 0, 0, 0]) ∧
              (e.drop 10).take 8 = be16s k.keyTrim ++ be16s k.corr ++ be16 (k.sentTarget.getD 0) ++
                be16 (k.lastReported.getD 0) ∧
              (e.drop 18) = be32 (match k.settledAt with | some n => n.toNat | none => 0))) ∧
    (t.payload = [0x03, b] →
      (11 < b.toNat → exec .queryGroups s = .next (s.answered 0x81 t .badField [])) ∧
      ∀ i : TowerIx, i.val = b.toNat →
        ((s.tower i).setup.enabled = false → exec .queryGroups s = .next (s.answered 0x81 t .towerOff [])) ∧
        ((s.tower i).setup.enabled = true → exec .queryGroups s = .next (s.answered 0x81 t .ok
          ([b, byteOf (((s.tower i).setup.keyCount + 11) / 12)] ++ (s.tower i).groups.flatMap fun r =>
            [byteOf r.index.val, byteOf (32 + 4 * i.val + r.index.val), presenceCode r.presence, byteOf r.missCount,
              byteOf ((if r.busy then 1 else 0) + if r.isLocal then 2 else 0)] ++
            be16 (match r.motionTimer with | some n => n | none => 65535) ++ [byteOf r.generation] ++
            be16 r.timeouts))))

/-- QUERY of PROFILE with the Length of Table 10-2: its checks, the header with n 0 of an EMPTY record, and for one
that is not EMPTY the header and the zone words of the zones asked for, bit 15 marking the written zones of the Staged
record; no change but the answer (R191, R196). -/
def Obligations.ProfileQueryAnswered : Prop :=
  ∀ (s : State) (t : Telegram) (b record first count : Byte), s.holds .query t →
    t.payload = [0x04, b, record, first, count] →
    (11 < b.toNat ∨ 1 < record.toNat ∨ count = 0 ∨ 48 < count.toNat →
      exec .queryProfile s = .next (s.answered 0x81 t .badField [])) ∧
    ∀ i : TowerIx, i.val = b.toNat → record.toNat ≤ 1 → count ≠ 0 → count.toNat ≤ 48 →
      let shown : Option (Byte × ProfileBody × Nat × List Bool) := if record = 0 then
          (s.tower i).staged.map fun q => (stagedCode (some q), q.body, q.pointer, q.written)
        else (s.tower i).active.map fun a => (activeCode (some a), a.body, 0, [])
      (shown = none → exec .queryProfile s = .next (s.answered 0x81 t .ok
        ([b, record] ++ List.replicate 18 0 ++ [first, 0]))) ∧
      ∀ status body pointer marks, shown = some (status, body, pointer, marks) →
        (body.zoneCount ≤ first.toNat → exec .queryProfile s = .next (s.answered 0x81 t .badField [])) ∧
        (first.toNat < body.zoneCount → body.zones.length = body.zoneCount →
          let n := min count.toNat (body.zoneCount - first.toNat)
          ∃ words : List (List Byte), exec .queryProfile s = .next (s.answered 0x81 t .ok
            ([b, record, status, loadModeCode body.mode] ++ be16 body.job ++ [byteOf body.zoneCount] ++
              be16 body.zonePitch ++ be16s body.zoneOrigin ++ be16 body.sheetLeft ++ be16 body.sheetRight ++
              [byteOf pointer] ++ be16 body.clampedCount ++ be16 body.overrunCount ++ [first, byteOf n] ++
              words.flatten)) ∧
            words.length = n ∧ ∀ (m v : Nat), m < n → body.zones[first.toNat + m]? = some v →
              words[m]? = some (be16 (v + if marks[first.toNat + m]? = some true then 32768 else 0)))

/-! ### The Readback Poller -/

/-- The SweepTimer's expiry loads a pending Interval, restarts at the Interval in force and gives a trigger (R149). A
sheet pulse adds one to SheetCount, modulo 2^32 (R83), and under SHEET counts toward the Divider, giving a trigger
when it is reached (R150). A trigger in NORMAL starts a round when none is active, latches when one is active, and
raises SWEEP_OVERRUN when one is latched already (R151); in PASSTHROUGH it is dropped (R153). A round takes the next
RoundNumber and lists, in ascending order of tower and group, every PRESENT group of the enabled towers, and the
ABSENT ones too when the number is a multiple of 8; one whose list is empty ends as it starts (R154, R155). That the
expiry of a stopped SweepTimer does nothing is log 2. -/
def Obligations.TriggersAndRounds : Prop :=
  (∀ s : State, s.ready →
     let p := s.poller
     let loaded := match p.intervalPending with | some n => n | none => p.interval
     (p.sweepTimer.isSome = true → exec .sweepTimerExpiry s = .next (({ s with poller := { p with
       interval := loaded, intervalPending := none, sweepTimer := some loaded } } : State).trigger.judgeNotices)) ∧
     (p.sweepTimer = none → exec .sweepTimerExpiry s = .next s) ∧
     (let counted : State := { s with sheetCount := BitVec.ofNat 32 (s.sheetCount.toNat + 1) }
     (p.source = .timer → exec .sheetPulse s = .next counted) ∧
     (p.source = .sheet → p.dividerCount + 1 < p.divider →
       exec .sheetPulse s = .next { counted with poller := { p with dividerCount := p.dividerCount + 1 } }) ∧
     (p.source = .sheet → p.divider ≤ p.dividerCount + 1 →
       exec .sheetPulse s =
         .next ({ counted with poller := { p with dividerCount := 0 } } : State).trigger.judgeNotices))) ∧
  (∀ s : State,
     (s.press.mode = .passthrough → s.trigger = s) ∧
     (s.press.mode = .normal → s.poller.roundActive = true → s.poller.roundPending = true →
       s.trigger = s.raise srcSweepOverrun .none) ∧
     (s.press.mode = .normal → s.poller.roundActive = true → s.poller.roundPending = false →
       s.trigger = { s with poller := { s.poller with roundPending := true } }) ∧
     (s.press.mode = .normal → s.poller.roundActive = false → s.trigger = s.startRound) ∧
     (∃ list : List PollEntry,
         s.startRound = { s with poller := { s.poller with
           roundNumber := (s.poller.roundNumber + 1) % 65536, roundActive := list != [], roundPending := false,
           pollList := list, cursor := 0, inHand := false } } ∧
         (∀ e, e ∈ list ↔ (s.tower e.tower).setup.enabled = true ∧ ∃ r ∈ (s.tower e.tower).groups,
           e = ⟨e.tower, r.index, nodeAddress e.tower r.index, r.generation⟩ ∧
           (r.presence = .present ∨ (s.poller.roundNumber + 1) % 8 = 0)) ∧
         ((∀ i, ((s.tower i).groups.map Group.index).Pairwise (· < ·)) →
           list.Pairwise fun a b => a.tower < b.tower ∨ a.tower = b.tower ∧ a.group < b.group)))

/-- The end of a STATUS_REQUEST's transaction advances the Cursor by one and over the stale entries after it. It rests
on the first entry whose group record still has the Generation noted; when none is left the round ends, and a latched
trigger starts the next one at the same moment from the records as they stand (R156, R157, R158). A transaction that
is no longer the round's advances nothing (R153). -/
def Obligations.CursorAdvances : Prop :=
  ∀ s : State,
    let p := s.poller
    let current (e : PollEntry) : Prop := ∃ r, (s.tower e.tower).groups.find? (fun r => r.index = e.group) = some r ∧
      r.generation = e.generation
    (p.inHand = false → s.pollEnded = s) ∧
    (∀ n e, p.inHand = true → p.cursor < n → p.pollList[n]? = some e → current e →
      (∀ m x, p.cursor < m → m < n → p.pollList[m]? = some x → ¬ current x) →
      s.pollEnded = { s with poller := { p with cursor := n, inHand := false } }) ∧
    (p.inHand = true → (∀ m x, p.cursor < m → p.pollList[m]? = some x → ¬ current x) →
      let ended : State := { s with poller := { p with
        roundActive := false, roundPending := false, pollList := [], cursor := 0, inHand := false } }
      (p.roundPending = false → s.pollEnded = ended) ∧ (p.roundPending = true → s.pollEnded = ended.startRound))

/-! ### The drive line: grants -/

/-- Who is granted when the line is FREE: HALT when pending; else Forward, when its oldest telegram is a broadcast or
has a place; else of Sweep and Move the one that is present, or the one that Turn names (R130, R131). Forward leaves
the last free place to a Management Handler that waits for one (R13); that it does so each time the Handler waits is
the model's choice (log 23). A group is eligible for a MOVE when its tower is enabled, it is PRESENT, not Busy and not
Local, and one of its keys is PENDING (R134). -/
def Obligations.ArbiterOrder : Prop :=
  (∀ s : State,
     let halt : Prop := s.drive.haltPending = true
     let handlerWaits : Prop := s.handler.hand = none ∧ s.handler.restart = .idle ∧ s.console.inbound ≠ []
     let forward : Prop := ∃ t rest, s.drive.forward = t :: rest ∧
       (t.dest = 0xFF ∨ 2 ≤ s.console.freePlaces ∨ 1 ≤ s.console.freePlaces ∧ ¬ handlerWaits)
     let sweep : Prop := s.press.mode = .normal ∧ s.poller.roundActive = true ∧
       s.poller.cursor < s.poller.pollList.length
     let move : Prop := s.press.hold = .released ∧ s.press.mode = .normal ∧ ∃ i g, (s.tower i).eligible g = true
     (s.chosen = some .halt ↔ halt) ∧
       (s.chosen = some .forward ↔ ¬ halt ∧ forward) ∧
       (s.chosen = some .sweep ↔ ¬ halt ∧ ¬ forward ∧ sweep ∧ (move → s.drive.turn = .sweep)) ∧
       (s.chosen = some .move ↔ ¬ halt ∧ ¬ forward ∧ move ∧ (sweep → s.drive.turn = .move)) ∧
       (s.chosen = none ↔ ¬ halt ∧ ¬ forward ∧ ¬ sweep ∧ ¬ move)) ∧
  (∀ (w : Tower) (g : GroupIx), (w.groups.map Group.index).Nodup →
     (w.eligible g = true ↔ w.setup.enabled = true ∧
       (∃ r ∈ w.groups, r.index = g ∧ r.presence = .present ∧ r.busy = false ∧ r.isLocal = false) ∧
       ∃ k ∈ w.keys, (k.index - 1) / 12 = g.val ∧ k.state = .pending))

/-- A HALT grant sends the seven-byte HALT broadcast; a Forward grant sends the oldest forwarded telegram as received,
with a FORWARD record, its window and a reserved place when it is addressed to a drive node, and with none when it is
a broadcast (R14, R125, R140, R145). DLDE is asserted (R126). A grant that the arbiter does not make, or while the
line is not FREE, does nothing (R124). That such a command changes nothing is log 2. -/
def Obligations.HaltAndForwardGranted : Prop :=
  ∀ s : State, s.ready →
    (s.drive.line = .free → s.chosen = some .halt → exec .haltGrant s = .next { s with
      drive := { s.drive with dlde := true, line := .sending .halt (makeTelegram 0xFF 0x08 0x9F []) false } }) ∧
    (∀ t rest, s.drive.line = .free → s.chosen = some .forward → s.drive.forward = t :: rest →
      (t.dest = 0xFF → exec .forwardGrant s = .next { s with
        drive := { s.drive with dlde := true, forward := rest, line := .sending .broadcast t false } }) ∧
      ∀ i g, t.dest = nodeAddress i g → exec .forwardGrant s = .next { s with
        console := { s.console with reservedForward := true },
        drive := { s.drive with
          dlde := true, forward := rest, line := (.sending (.transaction ⟨t.dest, .forward t.kind,
            if (s.tower i).setup.enabled then (s.tower i).setup.replyWindow else 50⟩) t false) } }) ∧
    (s.drive.line ≠ .free → exec .haltGrant s = .next s ∧ exec .forwardGrant s = .next s ∧
      exec .sweepGrant s = .next s ∧ exec .moveGrant s = .next s) ∧
    (s.chosen ≠ some .halt → exec .haltGrant s = .next s) ∧ (s.chosen ≠ some .forward → exec .forwardGrant s = .next s) ∧
    (s.chosen ≠ some .sweep → exec .sweepGrant s = .next s) ∧ (s.chosen ≠ some .move → exec .moveGrant s = .next s)

/-- A Sweep grant sends a STATUS_REQUEST to the group at the Cursor, noting its Generation and keys, and sets Turn to
MOVE; the entry is in hand (R125, R132, R138, R156). A Move grant takes the first tower of the rotation order with an
eligible group and its lowest eligible group, sends the PENDING keys with their Targets, moves the tower to the end of
the order and sets Turn to SWEEP; no key record changes (R125, R132, R133, R135). -/
def Obligations.SweepAndMoveGranted : Prop :=
  ∀ s : State, s.ready → s.drive.line = .free →
    (∀ e r, s.chosen = some .sweep → s.poller.pollList[s.poller.cursor]? = some e →
      (s.tower e.tower).groups.find? (fun r => r.index = e.group) = some r →
      exec .sweepGrant s = .next { s with
        poller := { s.poller with inHand := true },
        drive := { s.drive with
          turn := .move, dlde := true, line := (.sending (.transaction ⟨e.node,
              .status r.generation (((s.tower e.tower).keys.filter fun k => (k.index - 1) / 12 = e.group.val).map Key.index),
              (s.tower e.tower).setup.replyWindow⟩)
            (makeTelegram e.node 0x08 0x98 []) false) } }) ∧
    (∀ before i after g r, s.chosen = some .move → s.drive.rotation = before ++ i :: after → i ∉ before →
      (∀ j ∈ before, ∀ g, (s.tower j).eligible g = false) → (s.tower i).eligible g = true →
      (∀ g' < g, (s.tower i).eligible g' = false) →
      (s.tower i).groups.find? (fun r => r.index = g) = some r →
      let batch := ((s.tower i).keys.filter fun k => (k.index - 1) / 12 = g.val ∧ k.state = .pending).filterMap
        fun k => k.computed.map fun c => (k.index, c.target)
      exec .moveGrant s = .next { s with
        drive := { s.drive with
          turn := .sweep, dlde := true, rotation := before ++ after ++ [i], line := (.sending (.transaction ⟨byteOf (32 + 4 * i.val + g.val), .move r.generation batch,
              (s.tower i).setup.replyWindow⟩)
            (makeTelegram (byteOf (32 + 4 * i.val + g.val)) 0x08 0x90
              (byteOf batch.length :: batch.flatMap fun b => [byteOf b.1, byteOf (b.2 / 256), byteOf b.2])) false) } })

/-! ### The drive line: the end of sending, replies and expiries -/

/-- The last check character leaves the line: a transaction's window opens for its length, a broadcast's gap of 2 ms
starts, and a telegram that a WARM restart met is followed by no window (R124, R126, R129). After a HALT, HaltPending
clears, the gap starts and every Busy group of every enabled tower is returned: its MOVING keys PENDING, or HELD
without a Target, Busy clear and the MotionTimer stopped; with every Phase the one that R29 derives nothing is raised,
for no tower enters READY through a HALT, and the console is left alone; a HALT that a WARM restart met has none of
these effects but its gap (R129, R145, R169). The end of a gap leaves the line FREE. -/
def Obligations.SendingEnds : Prop :=
  ∀ s : State, s.ready →
    (∀ r t, s.drive.line = .sending (.transaction r) t false → exec .driveSendComplete s = .next { s with
      drive := { s.drive with dlde := false, line := .waiting r r.window } }) ∧
    (∀ r t, s.drive.line = .sending (.transaction r) t true → exec .driveSendComplete s = .next { s with
      drive := { s.drive with dlde := false, line := .free } }) ∧
    (∀ t warm, s.drive.line = .sending .broadcast t warm → exec .driveSendComplete s = .next { s with
      drive := { s.drive with dlde := false, line := .gap 2 } }) ∧
    (∀ t, s.drive.line = .sending .halt t true → exec .haltSent s = .next { s with
      drive := { s.drive with dlde := false, line := .gap 2 } }) ∧
    (∀ t, s.drive.line = .sending .halt t false → ∃ n, exec .haltSent s = .next n ∧
      n.drive = { s.drive with dlde := false, haltPending := false, line := .gap 2 } ∧
      (∀ i, let w := s.tower i
        let busy := w.setup.enabled && w.groups.any fun r => r.busy
        n.tower i = if busy then
            Tower.withKeys
              { w with groups := w.groups.map fun r =>
                  if r.busy then { r with busy := false, motionTimer := none } else r }
              (w.keys.map fun k =>
                if k.state = .moving ∧ w.groups.any (fun r => r.index.val == (k.index - 1) / 12 && r.busy) then
                  { k with state := if k.computed.isSome then .pending else .held }
                else k)
          else w) ∧
      (s.phasesOk → n.console = s.console ∧ n.attention = s.attention) ∧
      (n.nreset, n.handler, n.curves, n.sheetCount, n.poller, n.press, n.pending) =
        (s.nreset, s.handler, s.curves, s.sheetCount, s.poller, s.press, s.pending)) ∧
    (∀ k, s.drive.line = .gap k → exec .gapEnd s = .next { s with drive := { s.drive with dlde := false, line := .free } })

/-- What is discarded on the drive line: everything outside a reply window, an invalid telegram, one whose Source is
not the destination, and for a MOVE or STATUS_REQUEST one not addressed to the ZK412, of another kind, of a Length or
reason not permitted, or a STATUS that does not list the keys noted. A discard changes nothing and the window runs on
(R7, R127). That a reception row given such characters does nothing is log 6. -/
def Obligations.DriveTelegramDiscarded : Prop :=
  ∀ (s : State) (chars : List RxChar), s.ready →
    ((∀ r n, s.drive.line ≠ .waiting r n) ∨ (∀ t, receive chars ≠ .valid t) ∨
      ∃ r n t, s.drive.line = .waiting r n ∧ receive chars = .valid t ∧ (t.src ≠ r.dest ∨
        (∀ k, r.work ≠ .forward k) ∧ (t.dest ≠ 0x08 ∨
          (∃ g b, r.work = .move g b) ∧ ¬ (t.kind = 0x91 ∧ t.payload = []) ∧
            ¬ (t.kind = 0x92 ∧ (t.payload = [0x01] ∨ t.payload = [0x02])) ∨
          ∃ g keys, r.work = .status g keys ∧ (t.kind ≠ 0x99 ∨ t.payload.length ≠ 1 + 3 * keys.length ∨
            ∃ m, m < keys.length ∧ (t.payload[1 + 3 * m]?).map BitVec.toNat ≠ keys[m]?)))) →
    exec (.driveTelegramDiscarded chars) s = .next s ∧ exec (.moveAcceptReceived chars) s = .next s ∧
      exec (.moveRejectReceived chars) s = .next s ∧ exec (.statusReceived chars) s = .next s ∧
      exec (.forwardedReplyReceived chars) s = .next s

/-- A reply that R7 takes for a MOVE whose Generation is the group's. MOVE_ACCEPT: MissCount 0, the group Busy with
its MotionTimer at MotionLimit, and each key of the batch that is still PENDING MOVING toward the target it was sent.
MOVE_REJECT: MissCount 0, the batch keys still PENDING judged against their Targets, and the group Local or Busy by
the reason. The Phase is derived once and the line is FREE (R106, R117, R118, R128, R136). With another Generation, or
without the record, only the line changes (R128). -/
def Obligations.MoveReplied : Prop :=
  ∀ (s : State) (chars : List RxChar) (t : Telegram) (i : TowerIx) (g : GroupIx) (generation window n : Nat)
    (batch : List (Nat × Nat)), s.ready →
    s.drive.line = .waiting ⟨nodeAddress i g, .move generation batch, window⟩ n → receive chars = .valid t →
    t.src = nodeAddress i g → t.dest = 0x08 →
    let w := s.tower i
    let free : Drive := { s.drive with dlde := false, line := .free }
    let carried (k : Key) : Option (Nat × Nat) := batch.find? fun b => b.1 = k.index
    let inGroup (k : Key) : Bool := (k.index - 1) / 12 = g.val
    let accepted := Tower.withKeys
      { w with groups := w.groups.map fun r => if r.index = g then
          { r with missCount := 0, busy := true, motionTimer := some (1000 * w.setup.motionLimit) } else r }
      (w.keys.map fun k => match carried k with
        | some b => if inGroup k ∧ k.state = .pending then { k with state := .moving, sentTarget := some b.2 } else k
        | none => k)
    let rejected (reason : Byte) := Tower.withKeys
      { w with groups := w.groups.map fun r => if r.index = g then
          (if reason = 0x01 then { r with missCount := 0, isLocal := true } else
            { r with missCount := 0, busy := true, motionTimer := some (1000 * w.setup.motionLimit) }) else r }
      (w.keys.map fun k => if inGroup k ∧ k.state = .pending ∧ (carried k).isSome then
        k.rejudge w.setup.tolerance s.sheetCount else k)
    let after (v : Tower) : State :=
      ({ s with drive := free, towers := s.towers.set i v } : State).phaseChanged i w.phase v.phase
    (∀ r, w.groups.find? (fun r => r.index = g) = some r → r.generation = generation →
      (t.kind = 0x91 → t.payload = [] → exec (.moveAcceptReceived chars) s = .next (after accepted)) ∧
      ∀ reason, t.kind = 0x92 → t.payload = [reason] → reason = 0x01 ∨ reason = 0x02 →
        exec (.moveRejectReceived chars) s = .next (after (rejected reason))) ∧
    ((∀ r, w.groups.find? (fun r => r.index = g) = some r → r.generation ≠ generation) →
      (t.kind = 0x91 → t.payload = [] → exec (.moveAcceptReceived chars) s = .next { s with drive := free }) ∧
      (t.kind = 0x92 → t.payload = [0x01] ∨ t.payload = [0x02] →
        exec (.moveRejectReceived chars) s = .next { s with drive := free }))

/-- A STATUS that R7 takes for a STATUS_REQUEST whose Generation is the group's: MissCount 0, an ABSENT group PRESENT
with its keys UNKNOWN, Local from the flags byte, Busy while an entry carries the Moving flag with a MotionTimer that
an already Busy group keeps running; then each key takes its entry by the table of `EntryAndRecomputeTables`,
GROUP_RETURNED occurs before the KEY_FAULT of each key that enters FAULT, the Phase is derived once and the line is
FREE (R107, R122). The end is reported to the Poller in every case; with another Generation, or without the record,
nothing else is done (R128, R138). -/
def Obligations.StatusTaken : Prop :=
  ∀ (s : State) (chars : List RxChar) (t : Telegram) (i : TowerIx) (g : GroupIx) (generation window n : Nat)
    (keys : List Nat) (flags : Byte) (entries : List (Byte × Byte × Byte)), s.ready →
    s.drive.line = .waiting ⟨nodeAddress i g, .status generation keys, window⟩ n → receive chars = .valid t →
    t.src = nodeAddress i g → t.dest = 0x08 → t.kind = 0x99 →
    t.payload = flags :: entries.flatMap (fun e => [e.1, e.2.1, e.2.2]) → entries.map (fun e => e.1.toNat) = keys →
    let w := s.tower i
    let free : Drive := { s.drive with dlde := false, line := .free }
    let anyMoving := entries.any fun e => e.2.1.getLsbD 6
    (∀ r, w.groups.find? (fun r => r.index = g) = some r → r.generation = generation →
      let before (k : Key) : Key := if (k.index - 1) / 12 = g.val ∧ r.presence = .absent then
          { k with state := .unknown, retry := 0, sentTarget := none }
        else k
      let after (k : Key) : Key := match entries.find? fun e => e.1.toNat = k.index with
        | some e => if (k.index - 1) / 12 = g.val then
            (before k).applyEntry ⟨k.index, e.2.1.getLsbD 7, e.2.1.getLsbD 6, e.2.1.toNat % 16 * 256 + e.2.2.toNat⟩
              w.setup.tolerance s.sheetCount
          else k
        | none => before k
      let u := Tower.withKeys
        { w with groups := w.groups.map fun r => if r.index = g then
            { r with
              presence := .present, missCount := 0, isLocal := flags.getLsbD 0, busy := anyMoving,
              motionTimer := if anyMoving = false then none
                else if r.busy then r.motionTimer else some (1000 * w.setup.motionLimit) }
          else r }
        (w.keys.map after)
      let faults := w.keys.filter fun k => (before k).state ≠ .fault ∧ (after k).state = .fault
      let raised := (if r.presence = .absent then [(srcGroupReturned, Detail.group i g)] else []) ++
        faults.map (fun k => (srcKeyFault, Detail.key i k.index)) ++
        if u.phase = .ready ∧ w.phase ≠ .ready then [(srcTowerReady, Detail.tower i)] else []
      exec (.statusReceived chars) s = .next
        ((({ s with drive := free, towers := s.towers.set i u } : State).raiseAll raised).pollEnded.judgeNotices)) ∧
    ((∀ r, w.groups.find? (fun r => r.index = g) = some r → r.generation ≠ generation) →
      exec (.statusReceived chars) s = .next ({ s with drive := free } : State).pollEnded)

/-- The reply window of a MOVE or STATUS_REQUEST expires with the group's Generation: the batch keys still PENDING are
judged, Timeouts is increased, saturating, and MissCount below 3; the third consecutive expiry makes the group ABSENT,
its keys UNREACHABLE, Busy clear and GROUP_ABSENT raised; the Phase is derived once and the line is FREE (R119, R120,
R137). With another Generation, or without the record, only the line changes. The Poller is told of every end of a
STATUS_REQUEST (R128, R138). A group's MotionTimer expires: its MOVING keys become FAULT with a KEY_FAULT each in
ascending key order, Busy clears, the timer stops and the Phase is derived once; a timer that does not run does not
expire (R116). That the command then changes nothing is log 2. -/
def Obligations.GroupTimersExpire : Prop :=
  (∀ (s : State) (i : TowerIx) (g : GroupIx) (generation window n : Nat), s.ready →
     let w := s.tower i
     let free : Drive := { s.drive with dlde := false, line := .free }
     let inGroup (k : Key) : Bool := (k.index - 1) / 12 = g.val
     let counted (r : Group) (judged : Key → Key) : State :=
       let goes : Bool := r.missCount == 2
       let u := Tower.withKeys
         { w with groups := w.groups.map fun r => if r.index = g then
             (let missed := { r with
               timeouts := if r.timeouts < 65535 then r.timeouts + 1 else r.timeouts,
               missCount := if r.missCount < 3 then r.missCount + 1 else r.missCount }
             if r.missCount = 2 then { missed with presence := .absent, busy := false, motionTimer := none } else missed)
           else r }
         (w.keys.map fun k => if goes ∧ inGroup k then { judged k with state := .unreachable } else judged k)
       let raised := (if goes then [(srcGroupAbsent, Detail.group i g)] else []) ++
         if u.phase = .ready ∧ w.phase ≠ .ready then [(srcTowerReady, Detail.tower i)] else []
       ({ s with drive := free, towers := s.towers.set i u } : State).raiseAll raised
     (∀ batch, s.drive.line = .waiting ⟨nodeAddress i g, .move generation batch, window⟩ n →
       (∀ r, w.groups.find? (fun r => r.index = g) = some r → r.generation = generation →
         exec .moveWindowExpiry s = .next (counted r (fun k =>
           if inGroup k ∧ k.state = .pending ∧ (batch.any fun b => b.1 = k.index) then
             k.rejudge w.setup.tolerance s.sheetCount else k)).judgeNotices) ∧
       ((∀ r, w.groups.find? (fun r => r.index = g) = some r → r.generation ≠ generation) →
         exec .moveWindowExpiry s = .next { s with drive := free })) ∧
     ∀ keys, s.drive.line = .waiting ⟨nodeAddress i g, .status generation keys, window⟩ n →
       (∀ r, w.groups.find? (fun r => r.index = g) = some r → r.generation = generation →
         exec .statusWindowExpiry s = .next (counted r id).pollEnded.judgeNotices) ∧
       ((∀ r, w.groups.find? (fun r => r.index = g) = some r → r.generation ≠ generation) →
         exec .statusWindowExpiry s = .next ({ s with drive := free } : State).pollEnded)) ∧
  (∀ (s : State) (i : TowerIx) (g : GroupIx), s.ready →
     let w := s.tower i
     let hit (k : Key) : Bool := (k.index - 1) / 12 = g.val && k.state == .moving
     let u := Tower.withKeys
       { w with groups := w.groups.map fun r => if r.index = g then { r with busy := false, motionTimer := none } else r }
       (w.keys.map fun k => if hit k then { k with state := .fault } else k)
     let raised := (w.keys.filter hit).map (fun k => (srcKeyFault, Detail.key i k.index)) ++
       if u.phase = .ready ∧ w.phase ≠ .ready then [(srcTowerReady, Detail.tower i)] else []
     (∀ r ms, w.groups.find? (fun r => r.index = g) = some r → r.motionTimer = some ms →
       exec (.motionTimerExpiry i g) s =
         .next (({ s with towers := s.towers.set i u } : State).raiseAll raised).judgeNotices) ∧
     ((∀ r, w.groups.find? (fun r => r.index = g) = some r → r.motionTimer = none) →
       exec (.motionTimerExpiry i g) s = .next s))

/-- A forward transaction ends with the first valid telegram from its destination, whatever its Kind and Destination,
or with its window's expiry. The reserved place is released and the line is FREE; while the link is UP the reply as
received, or a FORWARD_TIMEOUT with the destination and the forwarded Kind, takes the place in the transmit queue;
while it is LOST nothing does. No key, group or round is touched (R14, R141). -/
def Obligations.ForwardEnds : Prop :=
  ∀ (s : State) (dest kind : Byte) (window n : Nat), s.ready →
    s.drive.line = .waiting ⟨dest, .forward kind, window⟩ n →
    let endedWith (t : Telegram) : State := { s with
      console := { s.console with
        reservedForward := false, tx := if s.console.link = .up then s.console.tx ++ [t] else s.console.tx },
      drive := { s.drive with dlde := false, line := .free } }
    (∀ chars t, receive chars = .valid t → t.src = dest →
      exec (.forwardedReplyReceived chars) s = .next (endedWith t)) ∧
    exec .forwardTimeout s = .next (endedWith (makeTelegram 0x01 0x08 0x83 [dest, kind]))

/-! ### The Key Table and the Metering Engine -/

/-- What an entry of a STATUS reply does to its key (R108 to R111); the recompute outcome of a key (R105), with the
exception of a PENDING key that a MOVE on the line carries (R106), and the judgement of R105 for PENDING; and when a
key is on the line: a MOVE to its group, sent without a WARM restart or awaited, of its tower's Generation, carries it
(R106, R117; that the MOVE's Generation must be the tower's is log 22). -/
def Obligations.EntryAndRecomputeTables : Prop :=
  ∀ (k : Key) (tolerance : Nat) (sheets : Sheets),
    (∀ (key carried : Nat) (fault moving : Bool),
      let p := min carried 4000
      let out := k.applyEntry ⟨key, fault, moving, carried⟩ tolerance sheets
      let as (state : KeyState) : Key := { k with lastReported := some p, state := state }
      let settled : Key := if k.state = .settled then as .settled else
        { k with lastReported := some p, state := .settled, retry := 0, settledAt := some sheets }
      let near (o : Nat) : Prop := p ≤ o + tolerance ∧ o ≤ p + tolerance
      (k.state = .fault → out = as .fault) ∧
      (k.state ≠ .fault → fault = true → out = as .fault) ∧
      (k.state ≠ .fault → fault = false → moving = true →
        out = if k.state = .moving then as .moving else { as .moving with sentTarget := none }) ∧
      (fault = false → moving = false →
        (k.state = .moving →
          (∀ sent, k.sentTarget = some sent →
            (¬ near sent → k.retry < 3 → out = { as .pending with retry := k.retry + 1 }) ∧
            (¬ near sent → 3 ≤ k.retry → out = as .fault) ∧
            ∀ c, k.computed = some c → near sent →
              (near c.target → out = settled) ∧ (¬ near c.target → out = { as .pending with retry := 0 })) ∧
          (k.sentTarget = none →
            (k.computed = none → out = as .held) ∧
            ∀ c, k.computed = some c → (near c.target → out = settled) ∧ (¬ near c.target → out = as .pending))) ∧
        (k.state = .held → out = as .held) ∧
        (k.state = .unknown → k.computed = none → out = as .held) ∧
        ∀ c, k.computed = some c → k.state = .unknown ∨ k.state = .pending ∨ k.state = .settled →
          (near c.target → out = settled) ∧ (¬ near c.target → out = as .pending))) ∧
    (∀ onLine : Bool,
      let out := k.recomputeOutcome tolerance sheets onLine
      (k.state = .unknown ∨ k.state = .moving ∨ k.state = .fault ∨ k.state = .unreachable → out = k) ∧
      (k.state = .held → k.computed = none → out = k) ∧
      (k.state = .pending → onLine = true → out = k) ∧
      ∀ c p, k.computed = some c → k.lastReported = some p →
        k.state = .held ∨ k.state = .settled ∨ k.state = .pending ∧ onLine = false →
        (p ≤ c.target + tolerance ∧ c.target ≤ p + tolerance → out = if k.state = .settled then k else
          { k with state := .settled, retry := 0, settledAt := some sheets }) ∧
        (¬ (p ≤ c.target + tolerance ∧ c.target ≤ p + tolerance) → out = { k with state := .pending })) ∧
    (k.state = .pending → k.rejudge tolerance sheets = k.recomputeOutcome tolerance sheets false) ∧
    ∀ (s : State) (i : TowerIx), s.onLine i k = true ↔ ∃ (r : Transaction) (generation : Nat) (batch : List (Nat × Nat))
      (g : GroupIx), ((∃ t, s.drive.line = .sending (.transaction r) t false) ∨ ∃ n, s.drive.line = .waiting r n) ∧
        r.work = .move generation batch ∧ r.dest = nodeAddress i g ∧ g.val = (k.index - 1) / 12 ∧
        generation = (s.tower i).generation ∧ ∃ b ∈ batch, b.1 = k.index

/-- Nearest, halves upward: the largest integer not greater than the exact quotient plus one half, a half going to the
greater neighbour (R61). Nearest, halves away from zero: the rounding of the magnitude with the numerator's sign
(R62). The two agree but on a negative half, where the second is one less. -/
def Obligations.RoundingModes : Prop :=
  ∀ (n : Int) (d : Nat), 0 < d →
    (2 * d * roundUp n d ≤ 2 * n + d ∧ 2 * n + d < 2 * d * (roundUp n d + 1)) ∧
      (∀ m : Int, 2 * n = d * (2 * m + 1) → roundUp n d = m + 1) ∧ (∀ m : Int, n = d * m → roundUp n d = m) ∧
      (0 ≤ n → roundAway n d = roundUp n d) ∧ (n < 0 → roundAway n d = -roundUp (-n) d) ∧
      (∀ m : Int, n < 0 → 2 * n = d * (2 * m + 1) → roundAway n d = m) ∧
      (n < 0 → (∀ m : Int, 2 * n ≠ d * (2 * m + 1)) → roundAway n d = roundUp n d)

/-- The seven stages for a key, on a setup, profile and curve in their ranges: Coverage is the zone values weighted by
their overlap with the key's span, over KeyPitch (R66, R67); CurveOpening is a point's own, or the interpolation
between the two points around the Coverage (R69); the swept and the trimmed opening (R71, R72); and Target and
Saturation by the sheet test and the clamps (R68, R73, R74). Each of stages 1, 3, 4 and 5 rounds once, halves upward
(R61, R63). -/
def Obligations.StagesOfAKey : Prop :=
  ∀ (u : Setup) (b : ProfileBody) (curve : Curve) (k : Key), u.inRanges → b.ok → curve.ok →
    let out := computeStages u b curve k
    let rounded (value : Nat) (n : Int) (d : Int) : Prop := 2 * d * value ≤ 2 * n + d ∧ 2 * n + d < 2 * d * (value + 1)
    let left : Int := u.plateOffset + ((k.index : Int) - 1) * u.keyPitch
    let right : Int := left + u.keyPitch
    let lapped (z : Nat) : Int := max 0
      (min right (b.zoneOrigin + (z + 1) * b.zonePitch) - max left (b.zoneOrigin + z * b.zonePitch))
    let weighted := ((List.range b.zoneCount).map fun z => (b.zones.getD z 0 : Int) * lapped z).sum
    rounded out.coverage weighted u.keyPitch ∧ out.coverage ≤ 1000 ∧
      (∀ p ∈ curve.points, p.coverage = out.coverage → out.curveOpening = p.opening) ∧
      (∀ m p q, curve.points[m]? = some p → curve.points[m + 1]? = some q → p.coverage < out.coverage →
        out.coverage < q.coverage →
        rounded out.curveOpening
          ((p.opening : Int) * (q.coverage - p.coverage) + ((q.opening : Int) - p.opening) * (out.coverage - p.coverage))
          (q.coverage - p.coverage)) ∧
      out.curveOpening ≤ 4000 ∧
      ∃ swept trimmed : Nat, rounded swept (out.curveOpening * curve.refSweep) u.sweep ∧
        rounded trimmed (swept * u.towerTrim) 100 ∧
        let raw : Int := trimmed + k.keyTrim + k.corr
        let inside : Prop := left < (b.sheetRight : Int) ∧ (b.sheetLeft : Int) < right
        (¬ inside → out.target = 0 ∧ out.saturation = .closed) ∧
        (inside → 4000 < raw → out.target = 4000 ∧ out.saturation = .high) ∧
        (inside → raw < u.minOpening → out.target = u.minOpening ∧ out.saturation = .low) ∧
        (inside → u.minOpening ≤ raw → raw ≤ 4000 → (out.target : Int) = raw ∧ out.saturation = .none)

/-! ### Invariants that every step keeps, from every state that has them -/

/-- Every step keeps the capacities of the inbound buffer, the forward queue and the transmit queue with its reserved
places, and the relations of the Handler's telegram, the forward transaction and the waiting restart to their places
(R6, R8, R13, R14, R19, R139). -/
def Obligations.PlacesKept : Prop := Keeps State.placesOk

/-- Every step keeps LINEOK, the silence timer and DLDE in line with LinkState and the line state, the source records
in their ranges with details of their sources' forms, the counters in 16 bits, and the rotation order a permutation of
the twelve towers (R1, R6, R16, R18, R126, R133, R181, R182, Table 10-1). -/
def Obligations.ItemsKept : Prop := Keeps State.itemsOk

/-- Every step keeps the Poller's items in the ranges of Table 8-1 and in their relations: the SweepTimer runs exactly
under TIMER, a trigger is latched only while a round is active, an active round's Cursor is on an entry, and
PASSTHROUGH has no round (R148, R149, R150, R151, R153, R156, R158). -/
def Obligations.PollerKept : Prop := Keeps State.pollerOk

/-- Every step keeps the curves and setups of enabled towers in the ranges of Tables 2-1 and 2-3, an enabled tower
naming a LOADED curve, and the profiles in the ranges of Table 3-1 with the idle timer running exactly while a load is
open (R22, R33, R52, R65). -/
def Obligations.TablesAndProfilesKept : Prop := Keeps State.tablesOk ∧ Keeps State.profilesOk

/-- Every step keeps the key and group records those of the tower's KeyCount, none for a tower that is OFF, each
group's Generation the tower's, the MotionTimer running exactly while the group is Busy, and a key UNREACHABLE exactly
when its group is ABSENT (R24, R102, R114, R115, R120). -/
def Obligations.RecordsKept : Prop := Keeps State.recordsOk

/-- Every step keeps what Tables 6-1 and 6-2 say of each key's fields in its state: a SETTLED or PENDING key has a
Target and a LastReported, a HELD key no Target, a SETTLED key a SettledAtSheet, a key without a Target no SentTarget,
so a HELD key has none, and Target, SentTarget, LastReported, the trims and RetryCount lie in their ranges (R85, R95,
R103, R104). So do the targets of a MOVE on the line, which become SentTargets (R117). The ranges of Coverage and
CurveOpening are in `StagesOfAKey`. -/
def Obligations.KeysKept : Prop := Keeps State.keysOk

/-- The Phase is the first entry of R29's list whose condition holds; every step leaves every tower's Phase the one
derived from the tower as it stands (R29, R30), and every present Target what the seven stages give for the key's
inputs as they stand (R80). -/
def Obligations.PhasesAndTargetsKept : Prop :=
  (∀ w : Tower,
    let worst : Prop := ∃ k ∈ w.keys, k.state = .fault ∨ k.state = .unreachable
    (w.derivedPhase = .off ↔ w.setup.enabled = false) ∧
      (w.derivedPhase = .idle ↔ w.setup.enabled = true ∧ w.active = none) ∧
      (w.derivedPhase = .degraded ↔ w.setup.enabled = true ∧ w.active ≠ none ∧ worst) ∧
      (w.derivedPhase = .ready ↔ w.setup.enabled = true ∧ w.active ≠ none ∧ ∀ k ∈ w.keys, k.state = .settled) ∧
      (w.derivedPhase = .presetting ↔ w.setup.enabled = true ∧ w.active ≠ none ∧ ¬ worst ∧
        ∃ k ∈ w.keys, k.state ≠ .settled)) ∧
  Keeps State.phasesOk ∧ Keeps State.targetsOk

/-! ### Rules about the whole part -/

/-- Which commands can change which items: SheetCount a sheet pulse; PressState, Mode and Hold their own commands;
Turn a grant of Sweep or Move, the rotation order a Move grant; a tower's Generation a setup or WARM; its Active
profile a job commit or a setup; its Staged profile a command of its load, a job commit, a setup or WARM; a curve
record a load; a source's Priority and Mask ATTENTION_CONFIG or WARM. Power-on, nRESET and COLD apart, no other
command changes them, and no idle step does (R36, R37, R39, R83, R132, R133, R165, R171, R173, R187, R190). -/
def Obligations.ItemsChangeOnlyAtTheirCommands : Prop :=
  (∀ (s t : State) (c : Instr) (rest : List Instr), s.pending = c :: rest → step s = .next t →
    (∀ h, c ≠ .powerOn h ∧ c ≠ .nresetRelease h ∧ c ≠ .coldRestart h) →
    (t.sheetCount ≠ s.sheetCount → c = .sheetPulse) ∧
      (t.press.state ≠ s.press.state → c = .pressState) ∧
      (t.press.mode ≠ s.press.mode → c = .mode ∨ ∃ h, c = .warmRestart h) ∧
      (t.press.hold ≠ s.press.hold → c = .holdAssert ∨ c = .holdRelease ∨ ∃ h, c = .warmRestart h) ∧
      (t.drive.turn ≠ s.drive.turn → c = .sweepGrant ∨ c = .moveGrant) ∧
      (t.drive.rotation ≠ s.drive.rotation → c = .moveGrant) ∧
      (t.curves ≠ s.curves → c = .curveLoad) ∧
      (∀ i, (t.source i).priority ≠ (s.source i).priority ∨ (t.source i).mask ≠ (s.source i).mask →
        c = .attentionConfig ∨ ∃ h, c = .warmRestart h) ∧
      ∀ i, ((t.tower i).generation ≠ (s.tower i).generation → c = .towerSetup ∨ ∃ h, c = .warmRestart h) ∧
        ((t.tower i).staged ≠ (s.tower i).staged → c = .profileBegin ∨ c = .profileZones ∨ c = .profileEnd ∨
          c = .profileIdleExpiry i ∨ c = .jobCommit ∨ c = .towerSetup ∨ ∃ h, c = .warmRestart h) ∧
        ((t.tower i).setup ≠ (s.tower i).setup → c = .towerSetup ∨ c = .towerTrim) ∧
        ((t.tower i).active ≠ (s.tower i).active → c = .jobCommit ∨ c = .towerSetup)) ∧
  ∀ s t : State, s.pending = [] → step s = .next t →
    (t.sheetCount, t.press, t.drive.turn, t.drive.rotation, t.curves, t.attention) =
      (s.sheetCount, s.press, s.drive.turn, s.drive.rotation, s.curves, s.attention) ∧
    ∀ i, ((t.tower i).generation, (t.tower i).setup, (t.tower i).staged, (t.tower i).active) =
      ((s.tower i).generation, (s.tower i).setup, (s.tower i).staged, (s.tower i).active)

/-- A telegram is started on the drive line only when the line is FREE. An originated MOVE comes onto it only by
MOVE_GRANT, with HOLD not asserted, Mode NORMAL, no HALT pending, and a group of an enabled tower that is PRESENT, not
Busy, not Local and has a PENDING key (R124, R130, R131, R134). -/
def Obligations.NoMoveUnderHold : Prop :=
  ∀ s t : State, step s = .next t →
    (∀ what u warm, t.drive.line = .sending what u warm →
      s.drive.line = .free ∨ ∃ before, s.drive.line = .sending what u before) ∧
      (t.drive.line.hasMove = true → s.drive.line.hasMove = true ∨
        s.drive.line = .free ∧ s.pending.head? = some .moveGrant ∧ s.press.hold = .released ∧ s.press.mode = .normal ∧
          s.drive.haltPending = false ∧ ∃ (i : TowerIx) (r : Group), (s.tower i).setup.enabled = true ∧
            r ∈ (s.tower i).groups ∧ r.presence = .present ∧ r.busy = false ∧ r.isLocal = false ∧
            t.drive.line.destination = some (nodeAddress i r.index) ∧
            ∃ k ∈ (s.tower i).keys, (k.index - 1) / 12 = r.index.val ∧ k.state = .pending)
end

