-- ==== Sys2Proof/Laws/State.lean ====
section
/-! SUPPORT. The updates of the state field by field, each true by unfolding one record update, and the reading of towers
and curves after an update: later proofs cite these and unfold no update. -/

namespace Sys2Proof.Machine

/-! ### withConsole -/

@[simp] theorem State.withConsole_nreset (s : State) (c : ConsolePort) : (s.withConsole c).nreset = s.nreset := rfl
@[simp] theorem State.withConsole_console (s : State) (c : ConsolePort) : (s.withConsole c).console = c := rfl
@[simp] theorem State.withConsole_handler (s : State) (c : ConsolePort) : (s.withConsole c).handler = s.handler := rfl
@[simp] theorem State.withConsole_curves (s : State) (c : ConsolePort) : (s.withConsole c).curves = s.curves := rfl
@[simp] theorem State.withConsole_towers (s : State) (c : ConsolePort) : (s.withConsole c).towers = s.towers := rfl
@[simp] theorem State.withConsole_sheetCount (s : State) (c : ConsolePort) : (s.withConsole c).sheetCount = s.sheetCount := rfl
@[simp] theorem State.withConsole_drive (s : State) (c : ConsolePort) : (s.withConsole c).drive = s.drive := rfl
@[simp] theorem State.withConsole_poller (s : State) (c : ConsolePort) : (s.withConsole c).poller = s.poller := rfl
@[simp] theorem State.withConsole_press (s : State) (c : ConsolePort) : (s.withConsole c).press = s.press := rfl
@[simp] theorem State.withConsole_attention (s : State) (c : ConsolePort) : (s.withConsole c).attention = s.attention := rfl
@[simp] theorem State.withConsole_pending (s : State) (c : ConsolePort) : (s.withConsole c).pending = s.pending := rfl
@[simp] theorem State.withConsole_source (s : State) (c : ConsolePort) (i : SourceIx) : (s.withConsole c).source i = s.source i := rfl
@[simp] theorem State.withConsole_tower (s : State) (c : ConsolePort) (t : TowerIx) : (s.withConsole c).tower t = s.tower t := rfl
@[simp] theorem State.withConsole_curve (s : State) (c : ConsolePort) (i : CurveIx) : (s.withConsole c).curve i = s.curve i := rfl

/-! ### withHandler -/

@[simp] theorem State.withHandler_nreset (s : State) (h : Handler) : (s.withHandler h).nreset = s.nreset := rfl
@[simp] theorem State.withHandler_console (s : State) (h : Handler) : (s.withHandler h).console = s.console := rfl
@[simp] theorem State.withHandler_handler (s : State) (h : Handler) : (s.withHandler h).handler = h := rfl
@[simp] theorem State.withHandler_curves (s : State) (h : Handler) : (s.withHandler h).curves = s.curves := rfl
@[simp] theorem State.withHandler_towers (s : State) (h : Handler) : (s.withHandler h).towers = s.towers := rfl
@[simp] theorem State.withHandler_sheetCount (s : State) (h : Handler) : (s.withHandler h).sheetCount = s.sheetCount := rfl
@[simp] theorem State.withHandler_drive (s : State) (h : Handler) : (s.withHandler h).drive = s.drive := rfl
@[simp] theorem State.withHandler_poller (s : State) (h : Handler) : (s.withHandler h).poller = s.poller := rfl
@[simp] theorem State.withHandler_press (s : State) (h : Handler) : (s.withHandler h).press = s.press := rfl
@[simp] theorem State.withHandler_attention (s : State) (h : Handler) : (s.withHandler h).attention = s.attention := rfl
@[simp] theorem State.withHandler_pending (s : State) (h : Handler) : (s.withHandler h).pending = s.pending := rfl
@[simp] theorem State.withHandler_source (s : State) (h : Handler) (i : SourceIx) : (s.withHandler h).source i = s.source i := rfl
@[simp] theorem State.withHandler_tower (s : State) (h : Handler) (t : TowerIx) : (s.withHandler h).tower t = s.tower t := rfl
@[simp] theorem State.withHandler_curve (s : State) (h : Handler) (i : CurveIx) : (s.withHandler h).curve i = s.curve i := rfl

/-! ### withSheets -/

@[simp] theorem State.withSheets_nreset (s : State) (n : Sheets) : (s.withSheets n).nreset = s.nreset := rfl
@[simp] theorem State.withSheets_console (s : State) (n : Sheets) : (s.withSheets n).console = s.console := rfl
@[simp] theorem State.withSheets_handler (s : State) (n : Sheets) : (s.withSheets n).handler = s.handler := rfl
@[simp] theorem State.withSheets_curves (s : State) (n : Sheets) : (s.withSheets n).curves = s.curves := rfl
@[simp] theorem State.withSheets_towers (s : State) (n : Sheets) : (s.withSheets n).towers = s.towers := rfl
@[simp] theorem State.withSheets_sheetCount (s : State) (n : Sheets) : (s.withSheets n).sheetCount = n := rfl
@[simp] theorem State.withSheets_drive (s : State) (n : Sheets) : (s.withSheets n).drive = s.drive := rfl
@[simp] theorem State.withSheets_poller (s : State) (n : Sheets) : (s.withSheets n).poller = s.poller := rfl
@[simp] theorem State.withSheets_press (s : State) (n : Sheets) : (s.withSheets n).press = s.press := rfl
@[simp] theorem State.withSheets_attention (s : State) (n : Sheets) : (s.withSheets n).attention = s.attention := rfl
@[simp] theorem State.withSheets_pending (s : State) (n : Sheets) : (s.withSheets n).pending = s.pending := rfl
@[simp] theorem State.withSheets_source (s : State) (n : Sheets) (i : SourceIx) : (s.withSheets n).source i = s.source i := rfl
@[simp] theorem State.withSheets_tower (s : State) (n : Sheets) (t : TowerIx) : (s.withSheets n).tower t = s.tower t := rfl
@[simp] theorem State.withSheets_curve (s : State) (n : Sheets) (i : CurveIx) : (s.withSheets n).curve i = s.curve i := rfl

/-! ### withDrive -/

@[simp] theorem State.withDrive_nreset (s : State) (d : Drive) : (s.withDrive d).nreset = s.nreset := rfl
@[simp] theorem State.withDrive_console (s : State) (d : Drive) : (s.withDrive d).console = s.console := rfl
@[simp] theorem State.withDrive_handler (s : State) (d : Drive) : (s.withDrive d).handler = s.handler := rfl
@[simp] theorem State.withDrive_curves (s : State) (d : Drive) : (s.withDrive d).curves = s.curves := rfl
@[simp] theorem State.withDrive_towers (s : State) (d : Drive) : (s.withDrive d).towers = s.towers := rfl
@[simp] theorem State.withDrive_sheetCount (s : State) (d : Drive) : (s.withDrive d).sheetCount = s.sheetCount := rfl
@[simp] theorem State.withDrive_drive (s : State) (d : Drive) : (s.withDrive d).drive = d := rfl
@[simp] theorem State.withDrive_poller (s : State) (d : Drive) : (s.withDrive d).poller = s.poller := rfl
@[simp] theorem State.withDrive_press (s : State) (d : Drive) : (s.withDrive d).press = s.press := rfl
@[simp] theorem State.withDrive_attention (s : State) (d : Drive) : (s.withDrive d).attention = s.attention := rfl
@[simp] theorem State.withDrive_pending (s : State) (d : Drive) : (s.withDrive d).pending = s.pending := rfl
@[simp] theorem State.withDrive_source (s : State) (d : Drive) (i : SourceIx) : (s.withDrive d).source i = s.source i := rfl
@[simp] theorem State.withDrive_tower (s : State) (d : Drive) (t : TowerIx) : (s.withDrive d).tower t = s.tower t := rfl
@[simp] theorem State.withDrive_curve (s : State) (d : Drive) (i : CurveIx) : (s.withDrive d).curve i = s.curve i := rfl

/-! ### withPoller -/

@[simp] theorem State.withPoller_nreset (s : State) (p : Poller) : (s.withPoller p).nreset = s.nreset := rfl
@[simp] theorem State.withPoller_console (s : State) (p : Poller) : (s.withPoller p).console = s.console := rfl
@[simp] theorem State.withPoller_handler (s : State) (p : Poller) : (s.withPoller p).handler = s.handler := rfl
@[simp] theorem State.withPoller_curves (s : State) (p : Poller) : (s.withPoller p).curves = s.curves := rfl
@[simp] theorem State.withPoller_towers (s : State) (p : Poller) : (s.withPoller p).towers = s.towers := rfl
@[simp] theorem State.withPoller_sheetCount (s : State) (p : Poller) : (s.withPoller p).sheetCount = s.sheetCount := rfl
@[simp] theorem State.withPoller_drive (s : State) (p : Poller) : (s.withPoller p).drive = s.drive := rfl
@[simp] theorem State.withPoller_poller (s : State) (p : Poller) : (s.withPoller p).poller = p := rfl
@[simp] theorem State.withPoller_press (s : State) (p : Poller) : (s.withPoller p).press = s.press := rfl
@[simp] theorem State.withPoller_attention (s : State) (p : Poller) : (s.withPoller p).attention = s.attention := rfl
@[simp] theorem State.withPoller_pending (s : State) (p : Poller) : (s.withPoller p).pending = s.pending := rfl
@[simp] theorem State.withPoller_source (s : State) (p : Poller) (i : SourceIx) : (s.withPoller p).source i = s.source i := rfl
@[simp] theorem State.withPoller_tower (s : State) (p : Poller) (t : TowerIx) : (s.withPoller p).tower t = s.tower t := rfl
@[simp] theorem State.withPoller_curve (s : State) (p : Poller) (i : CurveIx) : (s.withPoller p).curve i = s.curve i := rfl

/-! ### withPress -/

@[simp] theorem State.withPress_nreset (s : State) (p : Press) : (s.withPress p).nreset = s.nreset := rfl
@[simp] theorem State.withPress_console (s : State) (p : Press) : (s.withPress p).console = s.console := rfl
@[simp] theorem State.withPress_handler (s : State) (p : Press) : (s.withPress p).handler = s.handler := rfl
@[simp] theorem State.withPress_curves (s : State) (p : Press) : (s.withPress p).curves = s.curves := rfl
@[simp] theorem State.withPress_towers (s : State) (p : Press) : (s.withPress p).towers = s.towers := rfl
@[simp] theorem State.withPress_sheetCount (s : State) (p : Press) : (s.withPress p).sheetCount = s.sheetCount := rfl
@[simp] theorem State.withPress_drive (s : State) (p : Press) : (s.withPress p).drive = s.drive := rfl
@[simp] theorem State.withPress_poller (s : State) (p : Press) : (s.withPress p).poller = s.poller := rfl
@[simp] theorem State.withPress_press (s : State) (p : Press) : (s.withPress p).press = p := rfl
@[simp] theorem State.withPress_attention (s : State) (p : Press) : (s.withPress p).attention = s.attention := rfl
@[simp] theorem State.withPress_pending (s : State) (p : Press) : (s.withPress p).pending = s.pending := rfl
@[simp] theorem State.withPress_source (s : State) (p : Press) (i : SourceIx) : (s.withPress p).source i = s.source i := rfl
@[simp] theorem State.withPress_tower (s : State) (p : Press) (t : TowerIx) : (s.withPress p).tower t = s.tower t := rfl
@[simp] theorem State.withPress_curve (s : State) (p : Press) (i : CurveIx) : (s.withPress p).curve i = s.curve i := rfl

/-! ### withAttention -/

@[simp] theorem State.withAttention_nreset (s : State) (a : Attention) : (s.withAttention a).nreset = s.nreset := rfl
@[simp] theorem State.withAttention_console (s : State) (a : Attention) : (s.withAttention a).console = s.console := rfl
@[simp] theorem State.withAttention_handler (s : State) (a : Attention) : (s.withAttention a).handler = s.handler := rfl
@[simp] theorem State.withAttention_curves (s : State) (a : Attention) : (s.withAttention a).curves = s.curves := rfl
@[simp] theorem State.withAttention_towers (s : State) (a : Attention) : (s.withAttention a).towers = s.towers := rfl
@[simp] theorem State.withAttention_sheetCount (s : State) (a : Attention) : (s.withAttention a).sheetCount = s.sheetCount := rfl
@[simp] theorem State.withAttention_drive (s : State) (a : Attention) : (s.withAttention a).drive = s.drive := rfl
@[simp] theorem State.withAttention_poller (s : State) (a : Attention) : (s.withAttention a).poller = s.poller := rfl
@[simp] theorem State.withAttention_press (s : State) (a : Attention) : (s.withAttention a).press = s.press := rfl
@[simp] theorem State.withAttention_attention (s : State) (a : Attention) : (s.withAttention a).attention = a := rfl
@[simp] theorem State.withAttention_pending (s : State) (a : Attention) : (s.withAttention a).pending = s.pending := rfl
@[simp] theorem State.withAttention_tower (s : State) (a : Attention) (t : TowerIx) : (s.withAttention a).tower t = s.tower t := rfl
@[simp] theorem State.withAttention_curve (s : State) (a : Attention) (i : CurveIx) : (s.withAttention a).curve i = s.curve i := rfl

/-! ### withPending -/

@[simp] theorem State.withPending_nreset (s : State) (q : List Instr) : (s.withPending q).nreset = s.nreset := rfl
@[simp] theorem State.withPending_console (s : State) (q : List Instr) : (s.withPending q).console = s.console := rfl
@[simp] theorem State.withPending_handler (s : State) (q : List Instr) : (s.withPending q).handler = s.handler := rfl
@[simp] theorem State.withPending_curves (s : State) (q : List Instr) : (s.withPending q).curves = s.curves := rfl
@[simp] theorem State.withPending_towers (s : State) (q : List Instr) : (s.withPending q).towers = s.towers := rfl
@[simp] theorem State.withPending_sheetCount (s : State) (q : List Instr) : (s.withPending q).sheetCount = s.sheetCount := rfl
@[simp] theorem State.withPending_drive (s : State) (q : List Instr) : (s.withPending q).drive = s.drive := rfl
@[simp] theorem State.withPending_poller (s : State) (q : List Instr) : (s.withPending q).poller = s.poller := rfl
@[simp] theorem State.withPending_press (s : State) (q : List Instr) : (s.withPending q).press = s.press := rfl
@[simp] theorem State.withPending_attention (s : State) (q : List Instr) : (s.withPending q).attention = s.attention := rfl
@[simp] theorem State.withPending_pending (s : State) (q : List Instr) : (s.withPending q).pending = q := rfl
@[simp] theorem State.withPending_source (s : State) (q : List Instr) (i : SourceIx) : (s.withPending q).source i = s.source i := rfl
@[simp] theorem State.withPending_tower (s : State) (q : List Instr) (t : TowerIx) : (s.withPending q).tower t = s.tower t := rfl
@[simp] theorem State.withPending_curve (s : State) (q : List Instr) (i : CurveIx) : (s.withPending q).curve i = s.curve i := rfl

/-! ### withTower -/

@[simp] theorem State.withTower_nreset (s : State) (t : TowerIx) (w : Tower) : (s.withTower t w).nreset = s.nreset := rfl
@[simp] theorem State.withTower_console (s : State) (t : TowerIx) (w : Tower) : (s.withTower t w).console = s.console := rfl
@[simp] theorem State.withTower_handler (s : State) (t : TowerIx) (w : Tower) : (s.withTower t w).handler = s.handler := rfl
@[simp] theorem State.withTower_curves (s : State) (t : TowerIx) (w : Tower) : (s.withTower t w).curves = s.curves := rfl
@[simp] theorem State.withTower_sheetCount (s : State) (t : TowerIx) (w : Tower) : (s.withTower t w).sheetCount = s.sheetCount := rfl
@[simp] theorem State.withTower_drive (s : State) (t : TowerIx) (w : Tower) : (s.withTower t w).drive = s.drive := rfl
@[simp] theorem State.withTower_poller (s : State) (t : TowerIx) (w : Tower) : (s.withTower t w).poller = s.poller := rfl
@[simp] theorem State.withTower_press (s : State) (t : TowerIx) (w : Tower) : (s.withTower t w).press = s.press := rfl
@[simp] theorem State.withTower_attention (s : State) (t : TowerIx) (w : Tower) : (s.withTower t w).attention = s.attention := rfl
@[simp] theorem State.withTower_pending (s : State) (t : TowerIx) (w : Tower) : (s.withTower t w).pending = s.pending := rfl
@[simp] theorem State.withTower_curve (s : State) (t : TowerIx) (w : Tower) (i' : CurveIx) : (s.withTower t w).curve i' = s.curve i' := rfl
@[simp] theorem State.withTower_source (s : State) (t : TowerIx) (w : Tower) (i' : SourceIx) : (s.withTower t w).source i' = s.source i' := rfl

/-! ### withCurve -/

@[simp] theorem State.withCurve_nreset (s : State) (i : CurveIx) (c : Option Curve) : (s.withCurve i c).nreset = s.nreset := rfl
@[simp] theorem State.withCurve_console (s : State) (i : CurveIx) (c : Option Curve) : (s.withCurve i c).console = s.console := rfl
@[simp] theorem State.withCurve_handler (s : State) (i : CurveIx) (c : Option Curve) : (s.withCurve i c).handler = s.handler := rfl
@[simp] theorem State.withCurve_towers (s : State) (i : CurveIx) (c : Option Curve) : (s.withCurve i c).towers = s.towers := rfl
@[simp] theorem State.withCurve_sheetCount (s : State) (i : CurveIx) (c : Option Curve) : (s.withCurve i c).sheetCount = s.sheetCount := rfl
@[simp] theorem State.withCurve_drive (s : State) (i : CurveIx) (c : Option Curve) : (s.withCurve i c).drive = s.drive := rfl
@[simp] theorem State.withCurve_poller (s : State) (i : CurveIx) (c : Option Curve) : (s.withCurve i c).poller = s.poller := rfl
@[simp] theorem State.withCurve_press (s : State) (i : CurveIx) (c : Option Curve) : (s.withCurve i c).press = s.press := rfl
@[simp] theorem State.withCurve_attention (s : State) (i : CurveIx) (c : Option Curve) : (s.withCurve i c).attention = s.attention := rfl
@[simp] theorem State.withCurve_pending (s : State) (i : CurveIx) (c : Option Curve) : (s.withCurve i c).pending = s.pending := rfl
@[simp] theorem State.withCurve_tower (s : State) (i : CurveIx) (c : Option Curve) (t' : TowerIx) : (s.withCurve i c).tower t' = s.tower t' := rfl
@[simp] theorem State.withCurve_source (s : State) (i : CurveIx) (c : Option Curve) (i' : SourceIx) : (s.withCurve i c).source i' = s.source i' := rfl

/-! ### withSource -/

@[simp] theorem State.withSource_nreset (s : State) (i : SourceIx) (r : SourceRecord) : (s.withSource i r).nreset = s.nreset := rfl
@[simp] theorem State.withSource_console (s : State) (i : SourceIx) (r : SourceRecord) : (s.withSource i r).console = s.console := rfl
@[simp] theorem State.withSource_handler (s : State) (i : SourceIx) (r : SourceRecord) : (s.withSource i r).handler = s.handler := rfl
@[simp] theorem State.withSource_curves (s : State) (i : SourceIx) (r : SourceRecord) : (s.withSource i r).curves = s.curves := rfl
@[simp] theorem State.withSource_towers (s : State) (i : SourceIx) (r : SourceRecord) : (s.withSource i r).towers = s.towers := rfl
@[simp] theorem State.withSource_sheetCount (s : State) (i : SourceIx) (r : SourceRecord) : (s.withSource i r).sheetCount = s.sheetCount := rfl
@[simp] theorem State.withSource_drive (s : State) (i : SourceIx) (r : SourceRecord) : (s.withSource i r).drive = s.drive := rfl
@[simp] theorem State.withSource_poller (s : State) (i : SourceIx) (r : SourceRecord) : (s.withSource i r).poller = s.poller := rfl
@[simp] theorem State.withSource_press (s : State) (i : SourceIx) (r : SourceRecord) : (s.withSource i r).press = s.press := rfl
@[simp] theorem State.withSource_pending (s : State) (i : SourceIx) (r : SourceRecord) : (s.withSource i r).pending = s.pending := rfl
@[simp] theorem State.withSource_tower (s : State) (i : SourceIx) (r : SourceRecord) (t' : TowerIx) : (s.withSource i r).tower t' = s.tower t' := rfl
@[simp] theorem State.withSource_curve (s : State) (i : SourceIx) (r : SourceRecord) (i' : CurveIx) : (s.withSource i r).curve i' = s.curve i' := rfl

/-! ### withLine -/

@[simp] theorem State.withLine_nreset (s : State) (l : Line) : (s.withLine l).nreset = s.nreset := rfl
@[simp] theorem State.withLine_console (s : State) (l : Line) : (s.withLine l).console = s.console := rfl
@[simp] theorem State.withLine_handler (s : State) (l : Line) : (s.withLine l).handler = s.handler := rfl
@[simp] theorem State.withLine_curves (s : State) (l : Line) : (s.withLine l).curves = s.curves := rfl
@[simp] theorem State.withLine_towers (s : State) (l : Line) : (s.withLine l).towers = s.towers := rfl
@[simp] theorem State.withLine_sheetCount (s : State) (l : Line) : (s.withLine l).sheetCount = s.sheetCount := rfl
@[simp] theorem State.withLine_poller (s : State) (l : Line) : (s.withLine l).poller = s.poller := rfl
@[simp] theorem State.withLine_press (s : State) (l : Line) : (s.withLine l).press = s.press := rfl
@[simp] theorem State.withLine_attention (s : State) (l : Line) : (s.withLine l).attention = s.attention := rfl
@[simp] theorem State.withLine_pending (s : State) (l : Line) : (s.withLine l).pending = s.pending := rfl
@[simp] theorem State.withLine_tower (s : State) (l : Line) (t' : TowerIx) : (s.withLine l).tower t' = s.tower t' := rfl
@[simp] theorem State.withLine_curve (s : State) (l : Line) (i' : CurveIx) : (s.withLine l).curve i' = s.curve i' := rfl
@[simp] theorem State.withLine_source (s : State) (l : Line) (i' : SourceIx) : (s.withLine l).source i' = s.source i' := rfl

/-! ### send -/

@[simp] theorem State.send_nreset (s : State) (t : Telegram) : (s.send t).nreset = s.nreset := rfl
@[simp] theorem State.send_handler (s : State) (t : Telegram) : (s.send t).handler = s.handler := rfl
@[simp] theorem State.send_curves (s : State) (t : Telegram) : (s.send t).curves = s.curves := rfl
@[simp] theorem State.send_towers (s : State) (t : Telegram) : (s.send t).towers = s.towers := rfl
@[simp] theorem State.send_sheetCount (s : State) (t : Telegram) : (s.send t).sheetCount = s.sheetCount := rfl
@[simp] theorem State.send_drive (s : State) (t : Telegram) : (s.send t).drive = s.drive := rfl
@[simp] theorem State.send_poller (s : State) (t : Telegram) : (s.send t).poller = s.poller := rfl
@[simp] theorem State.send_press (s : State) (t : Telegram) : (s.send t).press = s.press := rfl
@[simp] theorem State.send_attention (s : State) (t : Telegram) : (s.send t).attention = s.attention := rfl
@[simp] theorem State.send_pending (s : State) (t : Telegram) : (s.send t).pending = s.pending := rfl
@[simp] theorem State.send_tower (s : State) (t : Telegram) (t' : TowerIx) : (s.send t).tower t' = s.tower t' := rfl
@[simp] theorem State.send_curve (s : State) (t : Telegram) (i' : CurveIx) : (s.send t).curve i' = s.curve i' := rfl
@[simp] theorem State.send_source (s : State) (t : Telegram) (i' : SourceIx) : (s.send t).source i' = s.source i' := rfl

/-! ### Reading after writing -/

@[simp] theorem State.withTower_tower_self (s : State) (t : TowerIx) (w : Tower) : (s.withTower t w).tower t = w := by
  simp [State.tower, State.withTower]

theorem State.withTower_tower_ne (s : State) {t t' : TowerIx} (w : Tower) (h : t' ≠ t) :
    (s.withTower t w).tower t' = s.tower t' := by
  have : (t : Nat) ≠ t' := fun e => h (Fin.ext e.symm)
  simp [State.tower, State.withTower, this]

theorem State.withTower_tower (s : State) (t t' : TowerIx) (w : Tower) :
    (s.withTower t w).tower t' = if t' = t then w else s.tower t' := by
  split
  · subst_vars; simp
  · exact s.withTower_tower_ne w ‹_›

@[simp] theorem State.withTower_self (s : State) (t : TowerIx) : s.withTower t (s.tower t) = s := by
  simp [State.tower, State.withTower]

theorem State.withCurve_curve (s : State) (i j : CurveIx) (c : Option Curve) :
    (s.withCurve i c).curve j = if j = i then c else s.curve j := by
  split
  · subst_vars; simp [State.curve, State.withCurve]
  · have : (i : Nat) ≠ j := fun e => ‹¬ j = i› (Fin.ext e.symm)
    simp [State.curve, State.withCurve, this]

theorem State.withSource_source (s : State) (i j : SourceIx) (r : SourceRecord) :
    (s.withSource i r).source j = if j = i then r else s.source j := by
  split
  · subst_vars; simp [State.source, State.withSource, State.withAttention]
  · have : (i : Nat) ≠ j := fun e => ‹¬ j = i› (Fin.ext e.symm)
    simp [State.source, State.withSource, State.withAttention, this]

@[simp] theorem State.withSource_due (s : State) (i : SourceIx) (r : SourceRecord) :
    (s.withSource i r).attention.due = s.attention.due := rfl

@[simp] theorem State.send_tx (s : State) (t : Telegram) : (s.send t).console.tx = s.console.tx ++ [t] := rfl

@[simp] theorem State.withLine_line (s : State) (l : Line) : (s.withLine l).drive.line = l := rfl

/-- A state is its fields: two states with equal blocks are equal. -/
theorem State.eq_of_blocks {s t : State} (h1 : s.nreset = t.nreset) (h2 : s.console = t.console)
    (h3 : s.handler = t.handler) (h4 : s.curves = t.curves) (h5 : s.towers = t.towers)
    (h6 : s.sheetCount = t.sheetCount) (h7 : s.drive = t.drive) (h8 : s.poller = t.poller) (h9 : s.press = t.press)
    (h10 : s.attention = t.attention) (h11 : s.pending = t.pending) : s = t := by
  cases s; cases t; simp_all

/-- Two vectors of towers are equal when every tower reads the same. -/
theorem State.towers_ext {s t : State} (h : ∀ i, s.tower i = t.tower i) : s.towers = t.towers := by
  apply Vector.ext
  intro i hi
  exact h ⟨i, hi⟩

end Sys2Proof.Machine
end

