-- ==== Sys2Proof/Laws/Attention.lean ====
section
/-! SUPPORT. What raising a source and judging the notices of an event can do, said once: the raising operations touch the
Attention Unit alone, the judgement the tail of the transmit queue alone, and one occurrence in an event is
`State.occurred`. -/

namespace Sys2Proof.Machine

/-! ### Raising -/

/-- Raising a source changes the Attention Unit and nothing else. -/
theorem State.raise_eq_withAttention (s : State) (i : SourceIx) (d : Detail) :
    s.raise i d = s.withAttention (s.raise i d).attention := by
  unfold State.raise
  split <;> rfl

/-- The record of a source after it has been raised, and the other records (R182). -/
theorem State.raise_sources (s : State) (i : SourceIx) (d : Detail) :
    (s.raise i d).attention.sources = s.attention.sources.set i ((s.source i).after d) := by
  unfold State.raise SourceRecord.after
  split <;> rename_i h <;> rw [h] <;> rfl

/-- A source that was clear is due for a notice after it has been raised; one that was pending is not (R182). -/
theorem State.raise_due (s : State) (i : SourceIx) (d : Detail) :
    (s.raise i d).attention.due = s.attention.due ++ if (s.source i).pending = none then [i] else [] := by
  unfold State.raise
  split <;> rename_i h <;> simp [h, State.withAttention]

/-- Several occurrences change the Attention Unit and nothing else. -/
theorem State.raiseAll_eq_withAttention (os : List (SourceIx × Detail)) :
    ∀ s : State, s.raiseAll os = s.withAttention (s.raiseAll os).attention := by
  induction os with
  | nil => intro s; rfl
  | cons o os ih =>
    intro s
    have step : s.raiseAll (o :: os) = (s.raise o.1 o.2).raiseAll os := rfl
    rw [step, ih (s.raise o.1 o.2), State.raise_eq_withAttention]
    rfl

@[simp] theorem State.raiseAll_nil (s : State) : s.raiseAll [] = s := rfl

@[simp] theorem State.raiseAll_cons (s : State) (o : SourceIx × Detail) (os : List (SourceIx × Detail)) :
    s.raiseAll (o :: os) = (s.raise o.1 o.2).raiseAll os := rfl

theorem State.raiseAll_append (s : State) (os more : List (SourceIx × Detail)) :
    s.raiseAll (os ++ more) = (s.raiseAll os).raiseAll more := by
  simp [State.raiseAll]

/-! ### Judging -/

/-- The judgement of one source appends at most its notice to the transmit queue (R183). -/
theorem State.judgeNotice_tx (s : State) (i : SourceIx) :
    s.judgeNotice i = s ∨ ∃ o, (s.source i).pending = some o ∧ (s.source i).mask = false ∧ s.console.link = .up ∧
      4 ≤ s.console.freePlaces ∧ s.judgeNotice i = s.send (noticeTelegram i (s.source i).priority o) := by
  unfold State.judgeNotice
  split
  · split
    · rename_i o h c
      exact .inr ⟨o, h, c.1, c.2.1, c.2.2, rfl⟩
    · exact .inl rfl
  · exact .inl rfl

/-- Judging sources one after another changes the tail of the transmit queue and nothing else, and what it appends are
notices. -/
theorem State.foldl_judgeNotice (is : List SourceIx) : ∀ s : State, ∃ notices : List Telegram,
    is.foldl State.judgeNotice s = s.withConsole { s.console with tx := s.console.tx ++ notices } ∧
      ∀ m ∈ notices, ∃ i p o, m = noticeTelegram i p o := by
  induction is with
  | nil => exact fun s => ⟨[], by simp [State.withConsole], by simp⟩
  | cons i is ih =>
    intro s
    obtain ⟨notices, h, all⟩ := ih (s.judgeNotice i)
    rcases s.judgeNotice_tx i with e | ⟨o, -, -, -, -, e⟩
    · exact ⟨notices, by simpa [e] using h, all⟩
    · refine ⟨noticeTelegram i (s.source i).priority o :: notices, ?_, ?_⟩
      · rw [List.foldl_cons, h, e]
        simp [State.send, State.withConsole]
      · rintro m (- | hm)
        · exact ⟨_, _, _, rfl⟩
        · exact all m ‹_›

/-- The end of an event: what the judgements do is to append notices, and nothing is due any more (R183). -/
theorem State.judgeNotices_cases (s : State) : ∃ notices : List Telegram,
    s.judgeNotices = { s with
      console := { s.console with tx := s.console.tx ++ notices },
      attention := { s.attention with due := [] } } ∧
    ∀ m ∈ notices, ∃ i p o, m = noticeTelegram i p o := by
  obtain ⟨notices, h, all⟩ := State.foldl_judgeNotice s.attention.due s
  exact ⟨notices, by unfold State.judgeNotices; rw [h]; rfl, all⟩

/-- An event in which no source became due is not changed by its end. -/
theorem State.judgeNotices_of_none_due {s : State} (h : s.attention.due = []) : s.judgeNotices = s := by
  unfold State.judgeNotices
  rw [h]
  cases s with | mk _ _ _ _ _ _ _ _ _ a _ => cases a; simp_all [State.withAttention]

@[simp] theorem State.judgeNotices_due (s : State) : s.judgeNotices.attention.due = [] := rfl

/-- One occurrence in an event. -/
theorem State.raise_judgeNotices {s : State} (h : s.attention.due = []) (i : SourceIx) (d : Detail) :
    (s.raise i d).judgeNotices = s.occurred i d := by
  cases hp : (s.source i).pending with
  | some o =>
    rw [State.judgeNotices_of_none_due (by rw [State.raise_due]; simp [h, hp])]
    simp [State.raise, hp, State.occurred, State.noticeOf, SourceRecord.after, State.withSource, State.withAttention, h]
  | none =>
    obtain ⟨v, hv⟩ : ∃ v, v = s.raise i d := ⟨_, rfl⟩
    have e : v = s.withAttention
        { sources := s.attention.sources.set i { s.source i with pending := some { count := 1, detail := d } },
          due := [i] } := by
      simp [hv, State.raise, hp, h]
    have src : v.source i = { s.source i with pending := some { count := 1, detail := d } } := by
      simp [e, State.source, State.withAttention]
    have due : v.attention.due = [i] := by rw [e]; rfl
    have con : v.console = s.console := by rw [e]; rfl
    have after : (s.source i).after d = { s.source i with pending := some { count := 1, detail := d } } := by
      simp [SourceRecord.after, hp]
    rw [← hv]
    unfold State.judgeNotices State.occurred State.noticeOf
    rw [due, List.foldl_cons, List.foldl_nil, after]
    unfold State.judgeNotice
    rw [src, con]
    by_cases c : (s.source i).mask = false ∧ s.console.link = .up ∧ 4 ≤ s.console.freePlaces
    · simp [c, hp, e, State.send, State.withConsole, State.withAttention, noticeTelegram, upward, Config.consoleNode,
        Config.ownNode, Config.kindNotice, Config.noticePlaces]
    · simp [c, hp, e, State.withAttention, Config.noticePlaces]

end Sys2Proof.Machine
end

