-- ==== Sys2Proof/Laws/Bytes.lean ====
section
/-! SUPPORT. Fields of a payload read back after being written, and the characters of a frame read one by one. -/

namespace Sys2Proof.Machine

/-! ### Fields (R5) -/

@[simp] theorem byteOf_toNat (n : Nat) : (byteOf n).toNat = n % 256 := by simp [byteOf]

theorem u16_lt (hi lo : Byte) : u16 hi lo < 65536 := by
  unfold u16
  omega

theorem u16_be16 {n : Nat} (h : n < 65536) : u16 (byteOf (n / 256)) (byteOf n) = n := by
  simp only [u16, byteOf_toNat]
  omega

theorem s16_be16s {i : Int} (lo : -32768 ≤ i) (hi : i ≤ 32767) :
    s16 (byteOf ((i % 65536).toNat / 256)) (byteOf (i % 65536).toNat) = i := by
  unfold s16
  rw [u16_be16 (by omega)]
  split <;> omega

/-- A run of two-byte values is read back, with a lone byte at its end ignored (R48, R49). -/
theorem u16Run_flatMap (values : List Nat) (lone : List Byte) (short : lone.length ≤ 1) (range : ∀ v ∈ values, v < 65536) :
    u16Run (values.flatMap be16 ++ lone) = values := by
  induction values with
  | nil =>
    match lone, short with
    | [], _ => rfl
    | [_], _ => rfl
  | cons v vs ih =>
    have vs_range : ∀ x ∈ vs, x < 65536 := fun x hx => range x (List.mem_cons_of_mem _ hx)
    have v_range : v < 65536 := range v List.mem_cons_self
    simp [be16, u16Run, u16_be16 v_range, ih vs_range]

/-- A run of signed two-byte values is read back (R86, R89). -/
theorem s16Run_flatMap (values : List Int) (range : ∀ v ∈ values, -32768 ≤ v ∧ v ≤ 32767) :
    s16Run (values.flatMap be16s) = values := by
  induction values with
  | nil => rfl
  | cons v vs ih =>
    have vs_range : ∀ x ∈ vs, -32768 ≤ x ∧ x ≤ 32767 := fun x hx => range x (List.mem_cons_of_mem _ hx)
    obtain ⟨lo, hi⟩ := range v List.mem_cons_self
    simp [be16s, be16, s16Run, s16_be16s lo hi, ih vs_range]

@[simp] theorem towerOf_val (i : TowerIx) : towerOf i.val = some i := by simp [towerOf]

@[simp] theorem curveOf_val (i : CurveIx) : curveOf i.val = some i := by simp [curveOf]

@[simp] theorem sourceOf_val (i : SourceIx) : sourceOf i.val = some i := by simp [sourceOf]

/-! ### Characters (R1, R2) -/

@[simp] theorem lineChars_cons (b : Byte) (bs : List Byte) : lineChars (b :: bs) = ⟨b, true⟩ :: lineChars bs := rfl

@[simp] theorem lineChars_length (bs : List Byte) : (lineChars bs).length = bs.length := by simp [lineChars]

/-- As many characters as a run of bytes has are the run, whatever follows it. -/
theorem takeChars_lineChars (bs : List Byte) (rest : List RxChar) :
    takeChars bs.length (lineChars bs ++ rest) = some (bs, rest) := by
  induction bs with
  | nil => rfl
  | cons b bs ih => simp [takeChars, ih]

/-- An idle line before enough characters have come truncates the run (R1). -/
theorem takeChars_short : ∀ (n : Nat) (cs : List RxChar), cs.length < n → takeChars n cs = none
  | 0, _, h => absurd h (by simp)
  | _ + 1, [], _ => rfl
  | n + 1, c :: cs, h => by
    have shorter : cs.length < n := by simpa using h
    simp [takeChars, takeChars_short n cs shorter]

/-- What is taken has the length asked for. -/
theorem takeChars_length : ∀ (n : Nat) (cs : List RxChar) (bs : List Byte) (rest : List RxChar),
    takeChars n cs = some (bs, rest) → bs.length = n
  | 0, cs, bs, rest, h => by
    obtain ⟨rfl, -⟩ : bs = [] ∧ _ := by simpa [takeChars, eq_comm] using h
    rfl
  | n + 1, [], _, _, h => by simp [takeChars] at h
  | n + 1, c :: cs, bs, rest, h => by
    unfold takeChars at h
    split at h
    · cases e : takeChars n cs with
      | none => simp [e] at h
      | some r =>
        obtain ⟨rs, tail⟩ := r
        simp only [e, Option.map_some, Option.some.injEq, Prod.mk.injEq] at h
        obtain ⟨rfl, -⟩ := h
        simpa using takeChars_length n cs rs tail e
    · cases h

end Sys2Proof.Machine
end

