-- ==== Sys2Proof/Laws/Commands.lean ====
section
/-! SUPPORT. The shape that the commands share, said once: an event under nRESET and between events, the execution of a
telegram in hand by the rules of its kind, and that of a QUERY by its target. -/

namespace Sys2Proof.Machine

/-! ### Events (R21, R183) -/

theorem event_nreset {s : State} (h : s.nreset = true) (change : State → State) : event s change = .next s := by
  simp [event, h]

theorem event_released {s : State} (h : s.nreset = false) (change : State → State) :
    event s change = .next (change s).judgeNotices := by
  simp [event, h]

/-- An event whose change raises nothing is its change. -/
theorem event_quiet {s : State} (h : s.nreset = false) {change : State → State}
    (quiet : (change s).attention.due = []) : event s change = .next (change s) := by
  rw [event_released h, State.judgeNotices_of_none_due quiet]

/-- A step that does not take place changes nothing. -/
theorem event_unchanged {s : State} (h : s.ready) {change : State → State} (same : change s = s) :
    event s change = .next s := by
  rw [event_quiet h.1 (by rw [same]; exact h.2), same]

/-- Every event answers a next state. -/
theorem event_next (s : State) (change : State → State) : ∃ t, event s change = .next t := by
  unfold event
  split <;> exact ⟨_, rfl⟩

/-! ### Answers (R8, R11) -/

/-- An answer in the telegram form of `State.answered`. -/
theorem State.answerHeld_eq_answered (s : State) (kind : Byte) (t : Telegram) (r : Result) (data : List Byte) :
    s.answerHeld (answerTelegram kind t.kind r data) = s.answered kind t r data := rfl

@[simp] theorem State.answered_due (s : State) (kind : Byte) (t : Telegram) (r : Result) (data : List Byte) :
    (s.answered kind t r data).attention.due = s.attention.due := rfl

@[simp] theorem State.answered_tower (s : State) (kind : Byte) (t : Telegram) (r : Result) (data : List Byte)
    (i : TowerIx) : (s.answered kind t r data).tower i = s.tower i := rfl

@[simp] theorem State.answered_source (s : State) (kind : Byte) (t : Telegram) (r : Result) (data : List Byte)
    (i : SourceIx) : (s.answered kind t r data).source i = s.source i := rfl

/-- The answer and the occurrences of an event do not touch each other before the notices are judged. -/
theorem State.raiseAll_answered (os : List (SourceIx × Detail)) (s : State) (kind : Byte) (t : Telegram) (r : Result)
    (data : List Byte) : (s.raiseAll os).answered kind t r data = (s.answered kind t r data).raiseAll os := by
  induction os generalizing s with
  | nil => rfl
  | cons o os ih =>
    rw [State.raiseAll_cons, State.raiseAll_cons, ih]
    congr 1
    unfold State.raise
    rw [State.answered_source]
    split <;> rfl

/-! ### The telegram in hand -/

/-- A telegram of the kind and of a permitted Length is executed by the kind's rules. -/
theorem executeHeld_of_holds {s : State} {k : Kind} {t : Telegram} (h : s.holds k t)
    (rules : State → List Byte → Answer) :
    executeHeld k rules s =
      (rules s t.payload).state.answered 0x80 t (rules s t.payload).result (rules s t.payload).data := by
  obtain ⟨-, hand, kind, len⟩ := h
  simp only [executeHeld, hand, kind, len, if_true]
  rw [← kind, State.answerHeld_eq_answered]
  rfl

/-- The command of a kind, when its rules raise nothing. -/
theorem management_quiet {s : State} {k : Kind} {t : Telegram} (h : s.holds k t)
    {rules : State → List Byte → Answer} {a : Answer} (e : rules s t.payload = a) (quiet : a.state.attention.due = []) :
    management k rules s = .next (a.state.replied t a.result a.data) := by
  subst e
  rw [management, event_quiet h.1.1 (by rw [executeHeld_of_holds h]; exact quiet), executeHeld_of_holds h]
  rfl

/-- The command of a kind, when its rules refuse the telegram. -/
theorem management_refused {s : State} {k : Kind} {t : Telegram} (h : s.holds k t)
    {rules : State → List Byte → Answer} {r : Result} {data : List Byte} (e : rules s t.payload = refuse s r data) :
    management k rules s = .next (s.replied t r data) :=
  management_quiet h e h.1.2

/-- The command of a kind, when its rules make one occurrence. -/
theorem management_raised {s : State} {k : Kind} {t : Telegram} (h : s.holds k t)
    {rules : State → List Byte → Answer} {u : State} {r : Result} {data : List Byte} {i : SourceIx} {d : Detail}
    (e : rules s t.payload = { state := u.raise i d, result := r, data := data }) (quiet : u.attention.due = []) :
    management k rules s = .next ((u.replied t r data).occurred i d) := by
  rw [management, event_released h.1.1, executeHeld_of_holds h, e]
  show Host.Outcome.next ((u.raiseAll [(i, d)]).answered 0x80 t r data).judgeNotices = _
  rw [State.raiseAll_answered]
  exact congrArg _ (State.raise_judgeNotices (by exact quiet) i d)

/-- The command of a kind with another telegram in hand, or with none, changes nothing (log 2). -/
theorem management_idle {s : State} (h : s.ready) {k : Kind} (other : ∀ t, s.handler.hand = some t → t.kind ≠ k.code)
    (rules : State → List Byte → Answer) : management k rules s = .next s := by
  refine event_unchanged h ?_
  unfold executeHeld
  split
  · rename_i t ht
    simp [other t ht]
  · rfl

/-! ### Queries -/

/-- A QUERY of a target with its Length is answered by the target's snapshot and changes nothing else. -/
theorem query_of_hand {s : State} (h : s.ready) {x : Target} {t : Telegram} (hand : s.handler.hand = some t)
    (kind : t.kind = 0x58) (target : t.payload.head? = some x.code) (len : t.payload.length = x.length)
    (snapshot : State → List Byte → Snapshot) :
    query x snapshot s = .next (match snapshot s t.payload with
      | .ok data => s.answered 0x81 t .ok data
      | .error r => s.answered 0x81 t r []) := by
  have e : executeQuery x snapshot s = (match snapshot s t.payload with
      | .ok data => s.answered 0x81 t .ok data
      | .error r => s.answered 0x81 t r []) := by
    have named : t.kind = Kind.query.code ∧ t.payload.head? = some x.code := ⟨kind, target⟩
    simp only [executeQuery, hand, named, len, and_self, if_true]
    rw [← named.1]
    cases snapshot s t.payload <;> rfl
  rw [query, event_quiet h.1 (by rw [e]; split <;> exact h.2), e]

end Sys2Proof.Machine
end

