-- ==== Sys2Proof/Laws/KeyTable.lean ====
section
/-! SUPPORT. The shared operations on towers, said once: the derivation of the Phase, a recompute of some keys, a change made
to every tower in turn, and the node addresses of drive groups. -/

namespace Sys2Proof.Machine

/-! ### Fields of a changed tower -/

@[simp] theorem Tower.mapGroup_keys (w : Tower) (g : GroupIx) (f : Group → Group) : (w.mapGroup g f).keys = w.keys := rfl
@[simp] theorem Tower.mapGroup_setup (w : Tower) (g : GroupIx) (f : Group → Group) :
    (w.mapGroup g f).setup = w.setup := rfl
@[simp] theorem Tower.mapGroup_phase (w : Tower) (g : GroupIx) (f : Group → Group) :
    (w.mapGroup g f).phase = w.phase := rfl
@[simp] theorem Tower.mapGroup_active (w : Tower) (g : GroupIx) (f : Group → Group) :
    (w.mapGroup g f).active = w.active := rfl
@[simp] theorem Tower.mapGroupKeys_groups (w : Tower) (g : GroupIx) (f : Key → Key) :
    (w.mapGroupKeys g f).groups = w.groups := rfl
@[simp] theorem Tower.mapGroupKeys_setup (w : Tower) (g : GroupIx) (f : Key → Key) :
    (w.mapGroupKeys g f).setup = w.setup := rfl
@[simp] theorem Tower.mapGroupKeys_phase (w : Tower) (g : GroupIx) (f : Key → Key) :
    (w.mapGroupKeys g f).phase = w.phase := rfl
@[simp] theorem Tower.mapGroupKeys_active (w : Tower) (g : GroupIx) (f : Key → Key) :
    (w.mapGroupKeys g f).active = w.active := rfl

/-! ### The Phase (R29 to R31) -/

/-- The Phase that is derived does not depend on the Phase that is stored. -/
@[simp] theorem Tower.derivedPhase_phase (w : Tower) (p : Phase) :
    ({ w with phase := p } : Tower).derivedPhase = w.derivedPhase := rfl

@[simp] theorem Tower.withKeys_keys (w : Tower) (keys : List Key) : (w.withKeys keys).keys = keys := rfl

/-- A tower whose keys and Phase an event has left is in line with R29. -/
theorem Tower.withKeys_phase (w : Tower) (keys : List Key) : (w.withKeys keys).phase = (w.withKeys keys).derivedPhase := rfl

/-- READY needs every key SETTLED (R29). -/
theorem Tower.derivedPhase_ready {w : Tower} (h : w.derivedPhase = .ready) :
    w.setup.enabled = true ∧ w.active.isSome = true ∧ ∀ k ∈ w.keys, k.state = .settled := by
  unfold Tower.derivedPhase at h
  split at h
  · cases h
  · split at h
    · cases h
    · split at h
      · cases h
      · split at h
        · rename_i e a f all
          refine ⟨by simpa using e, by cases hw : w.active <;> simp_all, ?_⟩
          simpa using all
        · cases h

/-- What the derivation of a tower's Phase does: the Phase stored, and TOWER_READY when READY is entered (R30, R31). -/
theorem State.derivePhase_eq (s : State) (t : TowerIx) :
    s.derivePhase t = (s.withTower t { s.tower t with phase := (s.tower t).derivedPhase }).raiseAll
      (if (s.tower t).derivedPhase = .ready ∧ (s.tower t).phase ≠ .ready then [(srcTowerReady, .tower t)] else []) := by
  unfold State.derivePhase
  split <;> rename_i h <;> simp [h]

/-- The end of an event that only replaced one tower and derived its Phase. -/
theorem State.derivePhase_judgeNotices {s : State} (h : s.attention.due = []) (t : TowerIx) (v : Tower) :
    ((s.withTower t v).derivePhase t).judgeNotices =
      (s.withTower t { v with phase := v.derivedPhase }).phaseChanged t v.phase v.derivedPhase := by
  rw [State.derivePhase_eq, State.withTower_tower_self]
  have e : (s.withTower t v).withTower t { v with phase := v.derivedPhase } =
      s.withTower t { v with phase := v.derivedPhase } := by
    simp [State.withTower]
  rw [e]
  unfold State.phaseChanged
  split
  · exact State.raise_judgeNotices (by exact h) _ _
  · exact State.judgeNotices_of_none_due (by exact h)

/-! ### Recomputes (R75, R77, R79) -/

/-- A key's recompute in the words of the statements. -/
theorem State.recomputedKey_eq (s : State) (t : TowerIx) (k : Key) :
    s.recomputedKey t k = s.keyRecomputed t (s.tower t) k := rfl

/-- A whole-tower recompute recomputes every key of the tower and then derives its Phase (R77). -/
theorem State.recomputeTower_eq (s : State) (t : TowerIx) :
    s.recomputeTower t =
      (s.withTower t { s.tower t with keys := (s.tower t).keys.map (s.keyRecomputed t (s.tower t)) }).derivePhase t := by
  unfold State.recomputeTower State.recomputeKeys
  simp [State.recomputedKey_eq]

/-- A recompute changes the computed fields and what the outcome of R105 changes: a key's Index, KeyTrim, Corr, SentTarget
and LastReported stay (R75, R105). -/
theorem State.keyRecomputed_keeps (s : State) (t : TowerIx) (w : Tower) (k : Key) :
    (s.keyRecomputed t w k).index = k.index ∧ (s.keyRecomputed t w k).keyTrim = k.keyTrim ∧
      (s.keyRecomputed t w k).corr = k.corr ∧ (s.keyRecomputed t w k).sentTarget = k.sentTarget ∧
      (s.keyRecomputed t w k).lastReported = k.lastReported ∧
      (s.keyRecomputed t w k).computed = computeKey w (s.curve w.setup.curveId) k := by
  unfold State.keyRecomputed Key.recomputeOutcome Key.rejudge Key.settle Key.computedFrom
  split <;> (try split) <;> (try split) <;> (try split) <;> exact ⟨rfl, rfl, rfl, rfl, rfl, rfl⟩

/-! ### A change made to every tower in turn -/

/-- A fold over towers that replaces each by a function of itself touches each tower of the list once and nothing else. -/
theorem State.foldl_withTower (f : TowerIx → Tower → Tower) (ts : List TowerIx) (nodup : ts.Nodup) : ∀ s : State,
    let u := ts.foldl (fun s t => s.withTower t (f t (s.tower t))) s
    (∀ i, u.tower i = if i ∈ ts then f i (s.tower i) else s.tower i) ∧ u = { s with towers := u.towers } := by
  induction ts with
  | nil => exact fun s => ⟨by simp, rfl⟩
  | cons t ts ih =>
    intro s
    obtain ⟨fresh, nodup⟩ := List.nodup_cons.mp nodup
    obtain ⟨each, rest⟩ := ih nodup (s.withTower t (f t (s.tower t)))
    refine ⟨fun i => ?_, by simpa using rest⟩
    rw [List.foldl_cons, each i]
    by_cases hi : i = t
    · subst hi; simp [fresh]
    · simp [State.withTower_tower, hi]

theorem allTowers_nodup : allTowers.Nodup := by decide

theorem mem_allTowers (t : TowerIx) : t ∈ allTowers := by revert t; decide

/-- A change made to each of the twelve towers. -/
theorem State.foldl_allTowers (f : TowerIx → Tower → Tower) (s : State) :
    let u := allTowers.foldl (fun s t => s.withTower t (f t (s.tower t))) s
    (∀ i, u.tower i = f i (s.tower i)) ∧ u = { s with towers := u.towers } := by
  obtain ⟨each, rest⟩ := State.foldl_withTower f allTowers allTowers_nodup s
  exact ⟨fun i => by simpa [mem_allTowers] using each i, rest⟩

/-! ### Node addresses (section 1.2) -/

/-- A group's node names the group. -/
@[simp] theorem nodeParts_nodeAddress (i : TowerIx) (g : GroupIx) : nodeParts (nodeAddress i g) = some (i, g) := by
  revert i g; decide

/-- A node in the drive range is the address of the group it names. -/
theorem nodeParts_eq_some {node : Byte} {i : TowerIx} {g : GroupIx} :
    nodeParts node = some (i, g) ↔ node = nodeAddress i g := by
  constructor
  · intro h
    unfold nodeParts at h
    split at h
    · rename_i range
      obtain ⟨rfl, rfl⟩ : _ ∧ _ := by simpa using h
      apply BitVec.eq_of_toNat_eq
      simp only [nodeAddress, byteOf, BitVec.toNat_ofNat]
      omega
    · cases h
  · rintro rfl; simp

/-- A transaction's Generation guard passes for the record of its node alone (R128). -/
theorem State.guarded_nodeAddress (s : State) (i : TowerIx) (g : GroupIx) (generation : Nat) :
    s.guarded (nodeAddress i g) generation = ((s.tower i).group? g).bind fun r =>
      if r.generation = generation then some (i, g, r) else none := by
  unfold State.guarded
  rw [nodeParts_nodeAddress]
  cases h : (s.tower i).group? g <;> simp [h]

/-! ### Entries of a STATUS payload (R5, R7) -/

/-- The entries that a payload's three-byte groups are read as. -/
theorem statusEntries_flatMap (es : List (Byte × Byte × Byte)) :
    statusEntries (es.flatMap fun e => [e.1, e.2.1, e.2.2]) = some (es.map fun e =>
      { key := e.1.toNat, fault := u16 e.2.1 e.2.2 / 32768 % 2 == 1, moving := u16 e.2.1 e.2.2 / 16384 % 2 == 1,
        position := u16 e.2.1 e.2.2 % 4096 }) := by
  induction es with
  | nil => rfl
  | cons e es ih => simp [statusEntries, ih]

/-! ### The batch on the line -/

@[simp] theorem Line.batch_free : Line.free.batch = [] := rfl
@[simp] theorem Line.batch_gap (n : Nat) : (Line.gap n).batch = [] := rfl
@[simp] theorem Line.batch_sending_move (dest : Byte) (generation window : Nat) (b : List (Nat × Nat)) (t : Telegram)
    (warm : Bool) : (Line.sending (.transaction ⟨dest, .move generation b, window⟩) t warm).batch = b := rfl
@[simp] theorem Line.batch_waiting_move (dest : Byte) (generation window n : Nat) (b : List (Nat × Nat)) :
    (Line.waiting ⟨dest, .move generation b, window⟩ n).batch = b := rfl

/-- A step of the line that keeps its transaction keeps the batch. -/
@[simp] theorem Line.batch_tick (l : Line) : l.tick.batch = l.batch := by
  rcases l with _ | _ | ⟨r, n⟩ | _
  all_goals first | rfl | (rcases r with ⟨_, _ | _ | _, _⟩ <;> rfl)

end Sys2Proof.Machine
end

