-- ==== Sys2Proof/WellFormed.lean ====
section
/-! DEFINITION. Well-formed commands: a reception carries characters that are what its row says it received, as far as the
characters alone decide it (R1, R3, Table 1-2). Every other command is well formed; its tower and group numbers are in
range by their types. -/

namespace Sys2Proof

/-- The characters are a valid telegram that meets the test. -/
def validAnd (chars : List RxChar) (test : Telegram → Bool) : Bool :=
  match Machine.receive chars with
  | .valid t => test t
  | _ => false

/-- The command carries characters that fit its row. -/
def Instr.wellFormed : Instr → Bool
  | .consoleTelegramReceived chars => validAnd chars fun _ => true
  | .consoleTelegramInvalid chars => Machine.receive chars == .invalid
  | .moveAcceptReceived chars => validAnd chars fun t => t.kind == Config.kindMoveAccept && t.payload.isEmpty
  | .moveRejectReceived chars =>
    validAnd chars fun t => t.kind == Config.kindMoveReject && (t.payload == [0x01] || t.payload == [0x02])
  | .statusReceived chars => validAnd chars fun t => t.kind == Config.kindStatus && t.payload.length % 3 == 1
  | .forwardedReplyReceived chars => validAnd chars fun _ => true
  | _ => true

end Sys2Proof
end

