-- ==== Sys2Proof/Tests/Slice0.lean ====
section
/-! SUPPORT. The model's own tests: the ill-formed terms that WellFormed refuses, values worked out in the manual, and for
each statement with hypotheses a state and operands that meet them, clause by clause at the ends of their ranges. -/

open Sys2Proof Sys2Proof.Machine

namespace Sys2Proof.Tests

/-! ### States to test on -/

/-- The state after a command. -/
def after (c : Instr) (s : State) : State := match exec c s with
  | .next t => t
  | _ => s

/-- The state after one step. -/
def afterStep (s : State) : State := match step s with
  | .next t => t
  | _ => s

/-- A telegram from the console to the ZK412. -/
def tel (kind : Byte) (payload : List Byte) : Telegram := makeTelegram 0x08 0x01 kind payload

/-- The characters of a telegram. -/
def chars (dest src kind : Byte) (payload : List Byte) : List RxChar :=
  lineChars (frameOf (makeTelegram dest src kind payload))

/-- The state with a telegram in the Handler's hand. -/
def given (s : State) (kind : Byte) (payload : List Byte) : State :=
  { s with handler := { s.handler with hand := some (tel kind payload) },
           console := { s.console with reservedHandler := true } }

/-- The payload of the last telegram of the transmit queue, as numbers. -/
def lastPayload (s : State) : List Nat := ((s.console.tx.getLast?.map Telegram.payload).getD []).map BitVec.toNat

/-- The payload of the last telegram after a command on a telegram in hand. -/
def answer (c : Instr) (s : State) (kind : Byte) (payload : List Byte) : List Nat :=
  lastPayload (after c (given s kind payload))

/-- The curve of the worked sequence (section 11.1). -/
def refCurve : Curve := ⟨60, [⟨0, 200⟩, ⟨1000, 3200⟩]⟩

/-- The setup of the worked sequence's tower 0 (section 11.1). -/
def refSetup : Setup := ⟨true, 8, 400, 0, 1, 100, 8, 20, 10, 150, 3, 120, 600, 20, 60, 100⟩

/-- A profile of eight zones (section 11.3). -/
def refBody : ProfileBody := ⟨.full, 4101, 8, 400, 0, 0, 3200, [100, 250, 400, 600, 500, 300, 150, 0], 0, 0⟩

/-- A key that stands at its Target. -/
def refKey (i : Nat) : Key :=
  let c := computeStages refSetup refBody refCurve ⟨i, none, 0, 0, none, none, .unknown, 0, none⟩
  ⟨i, some c, 0, 0, none, some c.target, .settled, 0, some 0⟩

/-- An enabled tower whose keys are all SETTLED. -/
def refTower : Tower :=
  ⟨refSetup, 1, .ready, none, some ⟨true, refBody⟩, none, (List.range' 1 8).map refKey,
    [⟨0, .present, 0, false, false, none, 1, 0⟩]⟩

/-- The power-on state with curve 1 LOADED and tower 0 as given, the link UP. -/
def with0 (w : Tower) : State :=
  (((State.reset.withCurve 1 (some refCurve)).withTower 0 w).withConsole
    { State.reset.console with link := .up, lineok := true, silence := some 1000 })

/-- Tower 0 enabled with all keys SETTLED. -/
def settled : State := with0 refTower

/-- Tower 0 with one key changed. -/
def key3 (f : Key → Key) : State :=
  with0 (refTower.withKeys (refTower.keys.map fun k => if k.index = 3 then f k else k))

/-- Key 3 of tower 0 PENDING. -/
def pending3 : State := key3 fun k => { k with state := .pending, lastReported := some 1000 }

/-- The drive line of a state put in another state. -/
def onLine (s : State) (l : Line) : State := s.withLine l

/-- A MOVE of key 3 of tower 0 awaited. -/
def moveWait : Line := .waiting ⟨0x20, .move 1 [(3, 1400)], 20⟩ 20

/-- A STATUS_REQUEST to group 0 of tower 0 awaited. -/
def statusWait : Line := .waiting ⟨0x20, .status 1 [1, 2, 3, 4, 5, 6, 7, 8], 20⟩ 20

/-! ### WellFormed refuses ill-formed commands -/

/-- The row of valid telegrams refuses a frame whose Check is wrong. -/
theorem test_wf_consoleTelegramReceived :
    (Instr.consoleTelegramReceived ((chars 8 1 0x51 []).dropLast ++ [⟨0, true⟩])).wellFormed = false := by decide +kernel

/-- The row of invalid telegrams refuses a valid one. -/
theorem test_wf_consoleTelegramInvalid : (Instr.consoleTelegramInvalid (chars 8 1 0x51 [])).wellFormed = false := by
  decide +kernel

/-- MOVE_ACCEPT has no payload. -/
theorem test_wf_moveAccept : (Instr.moveAcceptReceived (chars 8 0x20 0x91 [0])).wellFormed = false := by decide +kernel

/-- MOVE_REJECT has the reasons 1 and 2 alone. -/
theorem test_wf_moveReject : (Instr.moveRejectReceived (chars 8 0x20 0x92 [3])).wellFormed = false := by decide +kernel

/-- A STATUS of the wrong Kind, and one with a byte left over. -/
theorem test_wf_status : (Instr.statusReceived (chars 8 0x20 0x98 [0])).wellFormed = false ∧
    (Instr.statusReceived (chars 8 0x20 0x99 [0, 1])).wellFormed = false := by decide +kernel

/-- A forwarded reply is a valid telegram. -/
theorem test_wf_forwardedReply : (Instr.forwardedReplyReceived [⟨0x5C, false⟩]).wellFormed = false := by decide +kernel

/-- A command of each of these rows that is well formed. -/
theorem test_wf_accepts :
    [Instr.consoleTelegramReceived (chars 8 1 0x51 []), .consoleTelegramInvalid [⟨0x5C, false⟩],
      .moveAcceptReceived (chars 8 0x20 0x91 []), .moveRejectReceived (chars 8 0x20 0x92 [2]),
      .statusReceived (chars 8 0x20 0x99 [0, 1, 0, 0]), .forwardedReplyReceived (chars 1 0x20 0x99 []),
      .powerOn .asserted].all Instr.wellFormed = true := by decide +kernel

/-! ### Values worked out in the manual -/

/-- The published check value of this CRC (polynomial 0x1021, register 0xFFFF, R3) for the digits 1 to 9. -/
theorem test_crc_check_value : crcOf [0x31, 0x32, 0x33, 0x34, 0x35, 0x36, 0x37, 0x38, 0x39] = 0x29B1 := by decide +kernel

/-- The worked MOVE of section 1.4: its node, its payload and its 17 bytes on the line. -/
theorem test_move_frame :
    nodeAddress 2 1 = 0x29 ∧
      movePayload [(14, 1699), (15, 820), (17, 0)] = [0x03, 0x0E, 0x06, 0xA3, 0x0F, 0x03, 0x34, 0x11, 0x00, 0x00] ∧
      (frameOf (downward 0x29 0x90 (movePayload [(14, 1699), (15, 820), (17, 0)]))).length = 17 := by decide +kernel

/-- The worked KeyWords of section 1.4. -/
theorem test_status_keywords :
    statusEntries [14, 0x06, 0xA6, 17, 0x41, 0x2C, 20, 0x8F, 0xFF] =
      some [⟨14, false, false, 1702⟩, ⟨17, false, true, 300⟩, ⟨20, true, false, 4095⟩] := by decide +kernel

/-- Table 4-2. -/
theorem test_rounding_table :
    ([(1325, 4), (4010, 3), (5, 2), (8022, 5), (-1, 2), (-12, 5), (-5, 2), (-13, 5), (-180, 1)] : List (Int × Nat)).map
        (fun q => (roundUp q.1 q.2, roundAway q.1 q.2)) =
      [(331, 331), (1337, 1337), (3, 3), (1604, 1604), (0, -1), (-2, -2), (-2, -3), (-3, -3), (-180, -180)] := by
  decide +kernel

/-- The tower, profile and curve of the reference key (chapter 4). -/
def chapter4 (sweep : Nat) : Setup × ProfileBody × Curve :=
  (⟨true, 32, 320, 0, 2, 80, 8, 20, 12, 150, 3, 120, 600, 20, sweep, 105⟩,
    ⟨.full, 1, 51, 200, 100, 0, 10400, 450 :: 800 :: List.replicate 49 0, 0, 0⟩,
    ⟨60, [⟨0, 120⟩, ⟨200, 900⟩, ⟨500, 1900⟩, ⟨1000, 3200⟩]⟩)

/-- The reference key at Sweep 50, and after the change to Sweep 55 (chapter 4). -/
theorem test_reference_key :
    let k : Key := ⟨1, none, 40, -25, none, none, .settled, 0, none⟩
    let c50 := chapter4 50
    let c55 := chapter4 55
    computeStages c50.1 c50.2.1 c50.2.2 k = ⟨331, 1337, 1699, .none⟩ ∧
      computeStages c55.1 c55.2.1 c55.2.2 k = ⟨331, 1337, 1547, .none⟩ := by decide +kernel

/-- Keys at the edges of the grid and of the sheet (chapter 4). -/
theorem test_edge_keys :
    let u : Setup := ⟨true, 10, 500, -300, 2, 150, 8, 20, 12, 150, 3, 120, 600, 20, 60, 100⟩
    let b : ProfileBody := ⟨.full, 1, 8, 500, 0, 300, 4100, [900, 620, 0, 0, 0, 0, 0, 750], 0, 0⟩
    [1, 2, 8, 9, 10].map (fun i => computeStages u b (chapter4 60).2.2 ⟨i, none, 0, 0, none, none, .settled, 0, none⟩) =
      [⟨360, 1433, 0, .closed⟩, ⟨788, 2649, 2649, .none⟩, ⟨300, 1233, 1233, .none⟩, ⟨450, 1733, 1733, .none⟩,
        ⟨0, 120, 0, .closed⟩] := by decide +kernel

/-- The falling and the rising segment (chapter 4). -/
theorem test_descending_segment :
    let falling : Curve := ⟨80, [⟨0, 1500⟩, ⟨100, 1495⟩, ⟨1000, 300⟩]⟩
    let rising : Curve := ⟨80, [⟨0, 1500⟩, ⟨100, 1505⟩, ⟨1000, 300⟩]⟩
    [30, 50, 70, 100, 400, 1000].map (curveOpeningOf falling) = [1499, 1498, 1497, 1495, 1097, 300] ∧
      [30, 50, 70, 100].map (curveOpeningOf rising) = [1502, 1503, 1504, 1505] := by decide +kernel

/-- Saturation at both ends (chapter 4): T is 65 at the low end and 3528 at the high end. -/
theorem test_saturation :
    [80, 65, 35, -135, 165].map (clampTarget true 80) = [(80, .none), (80, .low), (80, .low), (80, .low), (165, .none)] ∧
      [15300, 4000, 4001].map (clampTarget true 80) = [(4000, .high), (4000, .none), (4000, .high)] ∧
      trimmedOpening (sweptOpening 120 60 100) 90 = 65 ∧ trimmedOpening (sweptOpening 588 60 20) 200 = 3528 := by
  decide +kernel

/-- The increments of Gain 25, whose halves round away from zero (chapter 5). -/
theorem test_density_increments :
    [3, -3, 5, -5, 4].map (limitedIncrement { refSetup with gain := 25, stepLimit := 50 }) = [-8, 8, -13, 13, -10] := by
  decide +kernel

/-- Keys 1 to 8 of the worked report (chapter 5): state, SettledAtSheet, saturation, Corr and the deviation carried. -/
theorem test_density_report_gating :
    let key (st : KeyState) (at' : Option Sheets) (sat : Saturation) (corr : Int) : Key :=
      ⟨1, some ⟨331, 1337, 1699, sat⟩, 40, corr, none, some 1699, st, 0, at'⟩
    ([(key .settled (some 10480) .none (-25), 12), (key .settled (some 10480) .none 0, -32768),
        (key .settled (some 10500) .none 0, 8), (key .moving none .none 0, -15), (key .settled (some 10400) .none 0, 2),
        (key .settled (some 10400) .low 0, 5), (key .settled (some 10400) .none 560, -250), (key .fault none .none 0, 6)] :
        List (Key × Int)).map (fun e => e.1.density (chapter4 50).1 10512 (clampDeviation e.2)) =
      [.changed (-145), .noMeasure, .lag, .notSettled, .deadBand, .unchanged, .changed 600, .notSettled] := by
  decide +kernel

/-- Six keys of the worked STATUS reply (chapter 6): state, Target, SentTarget and RetryCount before, and what is reported. -/
theorem test_status_entries :
    let key (st : KeyState) (target : Nat) (sent : Option Nat) (retry : Nat) : Key :=
      ⟨1, some ⟨0, 0, target, .none⟩, 0, 0, sent, some 0, st, retry, some 1⟩
    let took (k : Key) (fault moving : Bool) (p : Nat) :=
      let k' := k.applyEntry ⟨1, fault, moving, p⟩ 8 10530
      (k'.state, k'.retry, k'.lastReported)
    [took (key .moving 1579 (some 1579) 0) false false 1581, took (key .moving 1850 (some 1842) 0) false false 1840,
        took (key .moving 2011 (some 2011) 0) false false 1960, took (key .moving 1760 (some 1760) 3) false false 1302,
        took (key .settled 2210 (some 2210) 0) false false 2230, took (key .settled 3100 (some 3100) 0) true false 4095] =
      [(.settled, 0, some 1581), (.pending, 0, some 1840), (.pending, 1, some 1960), (.fault, 3, some 1302),
        (.pending, 0, some 2230), (.fault, 0, some 4000)] := by decide +kernel

/-! ### Commands -/

/-- A telegram addressed to no node of the part's ranges is refused with NO_ROUTE and its Destination (R9). -/
theorem test_handlerTake_noRoute :
    lastPayload (after .handlerTake (after (.consoleTelegramReceived (chars 0x50 1 0x10 [])) State.reset)) =
      [0x10, 0x13, 0x50] := by decide +kernel

/-- A damaged telegram counts one check error and latches LINE_ERROR (R6). -/
theorem test_consoleTelegramInvalid :
    let s := after (.consoleTelegramInvalid [⟨0x5C, false⟩]) State.reset
    s.console.checkErrors = 1 ∧ (s.source 10).pending = some ⟨1, .none⟩ := by decide +kernel

/-- The refused loads of chapter 2, with the index of the point that fails. -/
theorem test_curveLoad_refusals :
    [[10, 150, 1000, 3000], [0, 100, 400, 900, 400, 1200, 1000, 3000], [0, 0, 500, 4200, 1000, 3000]].map
        (fun ps => answer .curveLoad State.reset 0x11 (2 :: 60 :: ps.flatMap be16)) =
      [[0x11, 0x11, 0x00], [0x11, 0x11, 0x02], [0x11, 0x11, 0x01]] := by decide +kernel

/-- A load of the curve that tower 0 uses names the tower in its mask (R34). -/
theorem test_curveLoad_mask :
    answer .curveLoad settled 0x11 (1 :: 60 :: [0, 200, 1000, 3200].flatMap be16) = [0x11, 0x00, 1, 0x00, 0x01] := by
  decide +kernel

/-- TOWER_SETUP answers with the tower and its next Generation, and starts a forced round (R23, R152). -/
theorem test_towerSetup :
    let s := after .towerSetup (given (with0 Tower.off) 0x10 (0 :: setupBytes refSetup))
    lastPayload s = [0x10, 0x00, 0, 1] ∧ s.poller.roundActive = true ∧ (s.tower 0).keys.length = 8 := by decide +kernel

/-- TOWER_TRIM clamps and says so (R27). -/
theorem test_towerTrim_clamped : answer .towerTrim settled 0x12 [0, 10, 201] = [0x12, 0x01, 0, 20, 200] := by
  decide +kernel

/-- A load of twenty zones in the segments of chapter 3's worked sequence. -/
def segmented : State :=
  let begin' := after .profileBegin (given settled 0x20
    ([0, 0] ++ be16 4712 ++ [20] ++ be16 260 ++ be16s (-100) ++ be16 200 ++ be16 5000))
  let first := after .profileZones (given begin' 0x21 ([0, 0, 0] ++ (List.replicate 8 250).flatMap be16))
  let second := after .profileZones (given first 0x21 ([0, 0, 0] ++ [400, 65535, 1200, 300, 300, 310].flatMap be16 ++ [7]))
  after .profileZones (given second 0x21 ([0, 1, 14] ++ (List.replicate 7 200).flatMap be16))

/-- The counts of the third segment, and the zone overrun it raises (chapter 3). -/
theorem test_profileZones_segments :
    ((segmented.console.tx.map fun t => t.payload.map BitVec.toNat).filter fun p => p.head? = some 0x21) =
        [[0x21, 0x00, 0, 8, 8, 0], [0x21, 0x01, 0, 14, 5, 0], [0x21, 0x00, 0, 20, 6, 1]] ∧
      (segmented.source 7).pending = some ⟨1, .tower 0⟩ := by decide +kernel

/-- The rewrite of zone 9 and the end of the load; without the rewrite it is PARTIAL, with its notice after the REPLY
(chapter 3, R11). -/
theorem test_profileEnd_complete :
    let rewritten := after .profileZones (given segmented 0x21 ([0, 1, 9] ++ be16 520))
    answer .profileEnd rewritten 0x22 [0] = [0x22, 0x00, 0, 3, 20] ∧
      ((after .profileEnd (given segmented 0x22 [0])).console.tx.map fun t => t.payload.map BitVec.toNat).getLast?.map
          (fun p => p.take 3) = some [3, 2, 0] ∧
      ((after .profileEnd (given segmented 0x22 [0])).console.tx.map fun t => t.payload.map BitVec.toNat).contains
          [0x22, 0x00, 0, 2, 19] = true := by decide +kernel

/-- JOB_COMMIT is refused while PRINTING, and for a tower whose Staged profile is EMPTY (R56, R57). -/
theorem test_jobCommit_refused :
    answer .jobCommit { settled with press := ⟨.printing, .released, .normal⟩ } 0x23 (be16 1 ++ be16 7 ++ [0]) = [0x23, 0x30] ∧
      answer .jobCommit settled 0x23 (be16 1 ++ be16 7 ++ [0]) = [0x23, 0x22, 0] := by decide +kernel

/-- A relative trim beyond the limit is clamped and unsettles its key (R87, R88, R105). -/
theorem test_keyTrim_clamped :
    let s := after .keyTrim (given settled 0x30 ([0, 1, 3] ++ be16s 1500))
    lastPayload s = [0x30, 0x01, 0, 3, 1, 1] ∧ ((s.tower 0).keys[2]?.map fun k => (k.keyTrim, k.state)) =
      some (1000, .pending) := by decide +kernel

/-- FAULT_CLEAR makes a FAULT key PENDING without a look at its position (R113). -/
theorem test_faultClear :
    let s := after .faultClear (given (key3 fun k => { k with state := .fault, retry := 3 }) 0x38 [0, 0xFF])
    lastPayload s = [0x38, 0x00, 0, 0xFF, 1] ∧ ((s.tower 0).keys[2]?.map fun k => (k.state, k.retry)) =
      some (.pending, 0) := by decide +kernel

/-- Under TIMER a new Interval waits for the timer's expiry (R148). -/
theorem test_sweepConfig_pending :
    answer .sweepConfig State.reset 0x40 ([0] ++ be16 500 ++ [4]) = [0x40, 0x00, 0, 0, 200, 1, 1, 244, 4] := by
  decide +kernel

/-- A poll of nothing pending (R188). -/
theorem test_attentionPoll_none :
    answer .attentionPoll State.reset 0x51 [] = [0x51, 0x00, 0xFF, 0, 0xFF, 0, 0, 0, 0] := by decide +kernel

/-- HOLD_CHANGE latched with its level, read by a poll (R170, R184, R188). -/
theorem test_holdAssert_polled :
    answer .attentionPoll (after .holdAssert State.reset) 0x51 [] = [0x51, 0x00, 0, 0, 0xFF, 3, 1, 1, 0] := by
  decide +kernel

/-- QUERY of DEVICE right after reset: PartCode, Revision, STOPPED, NORMAL, and the rotation from 0 (R192). -/
theorem test_queryDevice :
    let d := answer .queryDevice State.reset 0x58 [0x00]
    d.length = 48 ∧ d.take 13 = [0x58, 0x00, 0x04, 0x12, 0x01, 0, 0, 0, 0, 0, 0, 0, 0] ∧
      (d.drop 25).take 12 = [0, 1, 2, 3, 4, 5, 6, 7, 8, 9, 10, 11] := by decide +kernel

/-- QUERY of TOWER of an OFF tower is zeros (R193). -/
theorem test_queryTower_off :
    answer .queryTower State.reset 0x58 [0x01, 11] = [0x58, 0x00, 11] ++ List.replicate 26 0 := by decide +kernel

/-- A MOVE granted to the one group with a PENDING key, and its tower last in the order (R133, R135). -/
theorem test_moveGrant :
    let s := after .moveGrant pending3
    s.drive.line = .sending (.transaction ⟨0x20, .move 1 [(3, 1400)], 20⟩) (makeTelegram 0x20 0x08 0x90 [1, 3, 0x05, 0x78])
        false ∧ s.drive.rotation.getLast? = some 0 := by decide +kernel

/-- The third consecutive expiry makes a group ABSENT and the tower DEGRADED (R119, R120). -/
theorem test_statusWindowExpiry_absent :
    let s := onLine (with0 { refTower with groups := refTower.groups.map fun r => { r with missCount := 2 } }) statusWait
    let n := after .statusWindowExpiry s
    (n.tower 0).phase = .degraded ∧ (n.source 2).pending = some ⟨1, .group 0 0⟩ ∧ n.drive.line = .free := by
  decide +kernel

/-- A HALT sent returns the MOVING keys of a Busy group (R169). -/
theorem test_haltSent :
    let w := { refTower.withKeys (refTower.keys.map fun k => { k with state := .moving }) with
      groups := refTower.groups.map fun r => { r with busy := true, motionTimer := some 10 } }
    let n := after .haltSent (onLine { with0 w with drive := { State.reset.drive with haltPending := true } }
      (.sending .halt haltTelegram false))
    ((n.tower 0).keys.all fun k => k.state == .pending) = true ∧ n.drive.haltPending = false := by decide +kernel

/-- The idle part counts its sweep timer down and queues the expiry (R149; log 1). -/
theorem test_idle_step :
    let s := { State.reset with poller := { State.reset.poller with sweepTimer := some 1 } }
    (afterStep s).pending = [.sweepTimerExpiry] ∧ (afterStep State.reset).poller.sweepTimer = some 199 := by decide +kernel

/-- The interface's two operations on words: no row has bits (log 19). -/
theorem test_no_words : decodeTableWord 8 0 = none ∧ State.reset.withFetchWord 8 0 = State.reset := ⟨rfl, rfl⟩

/-! ### Witnesses: states and operands that meet the hypotheses of each statement, clause by clause -/

/-- nRESET asserted. -/
def inReset : State := { settled with nreset := true }

/-- A state with the transmit queue holding so many telegrams. -/
def queued (n : Nat) (s : State) : State :=
  { s with console := { s.console with tx := List.replicate n (tel 0 []) } }

/-- A state with the inbound buffer holding so many telegrams, and the link as given. -/
def inbound (n : Nat) (l : LinkState) (s : State) : State :=
  { s with console := { s.console with link := l, inbound := List.replicate n (tel 0x51 []) } }

/-- Tower 0 with key 3 in a state. -/
def key3In (st : KeyState) : State := key3 fun k => { k with state := st }

theorem witness_StepTakesTheFrontCommand :
    ({ settled with pending := [.sheetPulse, .gapEnd] } : State).pending = .sheetPulse :: [.gapEnd] := rfl

theorem witness_IdleStepIsOneMillisecond : settled.pending = [] ∧ settled.nreset = false := ⟨rfl, rfl⟩

theorem witness_FramesReceived :
    (List.replicate 120 (0 : Byte)).length ≤ 120 ∧ ([] : List Byte).length ≤ 120 ∧
      (let t : Telegram := ⟨8, 1, 0x51, [0], 0⟩
      t.payload.length ≤ 120 ∧ t.check ≠ crcOf (t.dest :: t.src :: t.kind :: byteOf t.payload.length :: t.payload)) ∧
      120 < (121 : Byte).toNat ∧ 120 < (255 : Byte).toNat ∧
      ((tel 0x51 []).payload.length ≤ 120 ∧ 1 ≤ 1 ∧ 1 < (frameOf (tel 0x51 [])).length ∧ 1 ≤ 6 ∧
        6 < (frameOf (tel 0x51 [])).length) ∧ (0x5B : Byte) ≠ 0x5C := by decide +kernel

theorem witness_PowerOnAndNreset :
    inReset.nreset = true ∧ settled.nreset = false ∧
      (let s := { settled with handler := ⟨none, .due .cold⟩ }
      s.nreset = false ∧ s.handler.restart = .due .cold) ∧
      (settled.ready ∧ settled.handler.restart ≠ .due .cold) ∧
      (∀ h, Instr.sheetPulse ≠ .powerOn h) ∧ (∀ h, Instr.sheetPulse ≠ .nresetRelease h) ∧ inReset.pending = [] :=
  ⟨rfl, rfl, ⟨rfl, rfl⟩, by decide +kernel, fun _ => Instr.noConfusion, fun _ => Instr.noConfusion, rfl⟩

theorem witness_WarmRestart :
    let s := { settled with handler := ⟨none, .due .warm⟩ }
    s.ready ∧ s.handler.restart = .due .warm ∧ (s.tower 1).setup.enabled = false ∧ (s.tower 0).setup.enabled = true := by
  decide +kernel

theorem witness_ConsoleLine :
    receive (chars 8 1 0x51 []) = .valid (tel 0x51 []) ∧
      [(3, LinkState.up), (4, .up), (3, .lost), (4, .lost)].all (fun c => decide ((inbound c.1 c.2 settled).ready ∧
        (inbound c.1 c.2 settled).console.link = c.2 ∧ (inbound c.1 c.2 settled).console.inbound.length = c.1)) = true ∧
      (settled.ready ∧ receive [⟨0x5C, false⟩] = .invalid) ∧ settled.console.link = .up ∧
      State.reset.console.link = .lost := by decide +kernel

/-- HOLD_CHANGE pending, with the transmit queue holding so many telegrams. -/
def noticed (n : Nat) : State := queued n (settled.withSource 0 ⟨0, false, some ⟨1, .level .asserted⟩⟩)

theorem witness_SelectedSource :
    ((noticed 12).selectSource = some 0 ∧ ((noticed 12).source 0).pending = some ⟨1, .level .asserted⟩ ∧
        4 ≤ (noticed 12).console.freePlaces) ∧
      settled.selectSource = none ∧ (noticed 13).console.freePlaces < 4 := by decide +kernel

/-- A telegram waits to be taken, and one place of the transmit queue is free. -/
def takeable (t : Telegram) : State :=
  let s := queued 15 settled
  { s with console := { s.console with inbound := [t] } }

theorem witness_HandlerTakesAndRefuses :
    ([tel 0x48 [1], tel 0x13 [], tel 0x58 [7], tel 0x58 [0xFF, 0, 0, 0, 0], tel 0x58 [], tel 0x58 [7, 0, 0, 0, 0, 0],
        makeTelegram 0x1F 1 0 [], makeTelegram 0x50 1 0 [], makeTelegram 0x01 1 0 []].all
        fun t => decide ((takeable t).ready ∧ (takeable t).console.inbound = t :: [] ∧ (takeable t).handler.hand = none ∧
          (takeable t).handler.restart = .idle ∧ 1 ≤ (takeable t).console.freePlaces)) = true ∧
      ([tel 0x58 [7], tel 0x58 [0xFF, 0, 0, 0, 0], tel 0x58 [], tel 0x58 [7, 0, 0, 0, 0, 0]].all fun t =>
        allTargets.all fun x => decide (t.dest = 0x08 ∧ t.kind = 0x58 ∧ t.payload.head? ≠ some x.code)) = true ∧
      executes .pressState (tel 0x48 [1]) = true ∧ (∀ k : Fin 17, (tel 0x13 []).kind ≠ (allKinds[k]).code) ∧
      (makeTelegram 0x1F 1 0 []).dest ≠ 0x08 ∧ ¬ (0x20 ≤ (0x1F : Byte).toNat ∧ (0x1F : Byte).toNat ≤ 0x4F) ∧
      ¬ (0x20 ≤ (0x50 : Byte).toNat ∧ (0x50 : Byte).toNat ≤ 0x4F) ∧
      settled.console.inbound = [] ∧ (given settled 0x51 []).handler.hand.isSome = true ∧
      ({ settled with handler := ⟨none, .due .warm⟩ } : State).handler.restart ≠ .idle ∧
      (queued 16 settled).console.freePlaces = 0 := by decide +kernel

/-- A telegram for the drive line waits to be taken. -/
def forwardable (l : LinkState) (h : HoldLevel) (n : Nat) (t : Telegram) : State :=
  let s := takeable t
  { s with console := { s.console with link := l }, press := { s.press with hold := h },
           drive := { s.drive with forward := List.replicate n t } }

theorem witness_HandlerForwards :
    let move := makeTelegram (nodeAddress 11 3) 1 0x90 []
    let all := makeTelegram 0xFF 1 0x90 []
    ([(LinkState.lost, HoldLevel.released, 0, move), (.up, .asserted, 0, all), (.up, .released, 8, all),
        (.up, .released, 7, move)].all fun c =>
      let s := forwardable c.1 c.2.1 c.2.2.1 c.2.2.2
      decide (s.ready ∧ s.console.inbound = c.2.2.2 :: [] ∧ s.handler.hand = none ∧ s.handler.restart = .idle ∧
        1 ≤ s.console.freePlaces)) = true ∧
      all.dest = 0xFF ∧ move.dest = nodeAddress 11 3 := by decide +kernel

theorem witness_EachTelegramHasOneAnswer :
    let s := given settled 0x48 [1]
    s.ready ∧ s.handler.hand = some (tel 0x48 [1]) ∧ executes .pressState (tel 0x48 [1]) = true := by decide +kernel

theorem witness_RefusalsChangeNothing :
    (let s := given settled 0x48 []
    s.ready ∧ s.handler.hand = some (tel 0x48 []) ∧ executes .pressState (tel 0x48 []) = true ∧
        (tel 0x48 []).kind = Kind.pressState.code ∧ Kind.pressState.lengthOk (tel 0x48 []).payload.length = false) ∧
      (let t := tel 0x58 [0x01]
      executes .queryTower t = true ∧ t.payload.head? = some Target.tower.code ∧ t.payload.length ≠ Target.tower.length) ∧
      (let s := given settled 0x48 [3]
      let n := after .pressState s
      s.ready ∧ s.handler.hand = some (tel 0x48 [3]) ∧ executes .pressState (tel 0x48 [3]) = true ∧
        n.console.tx = s.console.tx ++ makeTelegram 0x01 0x08 0x80 [0x48, 0x11, 0x00] :: [] ∧
        0x10 ≤ byteAt [0x48, 0x11, 0x00] 1) ∧
      (let s := given settled 0x20 (12 :: List.replicate 12 0)
      executes .profileBegin (tel 0x20 (12 :: List.replicate 12 0)) = true ∧
        (∀ i, (s.tower i).loading = none) ∧ byteAt (((after .profileBegin s).console.tx.map Telegram.payload).headD []) 1 =
          0x11) := by decide +kernel

theorem witness_RestartAndTransmit :
    [(1 : Byte), 2, 0, 3].all (fun b => decide ((given settled 0x5F [b]).holds .restart (tel 0x5F [b]))) = true ∧
      (queued 2 settled).ready ∧ (queued 2 settled).console.tx = tel 0 [] :: [tel 0 []] := by decide +kernel

/-- A round of which two entries are left, the entry at the Cursor not in hand. -/
def polling (latched : Bool) (second : PollEntry) : State :=
  { settled with poller := { settled.poller with
    roundActive := true, roundPending := latched, cursor := 0, inHand := false, pollList := [⟨1, 0, 0x24, 1⟩, second] } }

theorem witness_TowerSetupAccepted :
    let off : Setup := ⟨false, 48, 600, -2000, 15, 400, 40, 50, 30, 400, 50, 400, 1000, 255, 100, 200⟩
    let s := given settled 0x10 (0 :: setupBytes refSetup)
    let s' := given settled 0x10 (11 :: setupBytes off)
    (s.holds .towerSetup (tel 0x10 (0 :: setupBytes refSetup)) ∧ refSetup.inRanges ∧
        (s.curve refSetup.curveId).isSome = true) ∧
      (s'.holds .towerSetup (tel 0x10 (11 :: setupBytes off)) ∧ off.inRanges ∧ off.enabled = false) ∧
      s.poller.roundActive = false ∧
      (let current (s : State) (e : PollEntry) : Bool :=
        ((s.tower e.tower).groups.find? fun r => r.index = e.group).any fun r => r.generation == e.generation
      ([(false, (⟨0, 0, 0x20, 1⟩ : PollEntry)), (true, ⟨2, 0, 0x28, 1⟩)].all fun c =>
        let u := given (polling c.1 c.2) 0x10 (11 :: setupBytes off)
        decide (u.holds .towerSetup (tel 0x10 (11 :: setupBytes off)) ∧ u.poller.roundActive = true ∧
          u.poller.inHand = false ∧ u.poller.cursor = 0 ∧ u.poller.pollList = [⟨1, 0, 0x24, 1⟩, c.2] ∧
          current u ⟨1, 0, 0x24, 1⟩ = false ∧ current u c.2 = !c.1)) = true) := by decide +kernel

theorem witness_CurveLoadAccepted :
    let p : List Byte := 15 :: 60 :: refCurve.points.flatMap fun p => be16 p.coverage ++ be16 p.opening
    (given settled 0x11 p).holds .curveLoad (tel 0x11 p) ∧ refCurve.ok := by decide +kernel

/-- The checks of a TOWER_SETUP, as numbers of the fields that fail. -/
def setupFails (p : List Byte) : List Bool :=
  [byteAt p 0 ≤ 11, byteAt p 1 ≤ 1, 8 ≤ byteAt p 2 && byteAt p 2 ≤ 48, 200 ≤ u16At p 3 && u16At p 3 ≤ 600,
    -2000 ≤ s16At p 5 && s16At p 5 ≤ 2000,
    (match curveOf (byteAt p 7) with
      | some c => byteAt p 1 == 0 || (settled.curve c).isSome
      | none => false),
    u16At p 8 ≤ 400, 2 ≤ byteAt p 10 && byteAt p 10 ≤ 40, 1 ≤ byteAt p 11 && byteAt p 11 ≤ 50,
    1 ≤ byteAt p 12 && byteAt p 12 ≤ 30, u16At p 13 ≤ 400, byteAt p 15 ≤ 50, u16At p 16 ≤ 400, u16At p 18 ≤ 1000,
    byteAt p 20 ≤ 255, 20 ≤ byteAt p 21 && byteAt p 21 ≤ 100, 50 ≤ byteAt p 22 && byteAt p 22 ≤ 200]

theorem witness_SetupAndCurveRefused :
    let first : List Byte := 12 :: setupBytes refSetup
    let last : List Byte := 0 :: setupBytes { refSetup with towerTrim := 201 }
    let empty : List Byte := 0 :: setupBytes { refSetup with curveId := 2 }
    let load (i ref : Byte) (points : List Point) : List Byte :=
      i :: ref :: points.flatMap fun p => be16 p.coverage ++ be16 p.opening
    ((setupFails first)[0]? = some false ∧ (given settled 0x10 first).holds .towerSetup (tel 0x10 first)) ∧
      ((setupFails last)[16]? = some false ∧ (∀ m < 16, (setupFails last)[m]? = some true) ∧
        (given settled 0x10 last).holds .towerSetup (tel 0x10 last)) ∧
      ((setupFails empty)[5]? = some false ∧ ∀ m < 5, (setupFails empty)[m]? = some true) ∧
      ([load 16 60 refCurve.points, load 15 19 refCurve.points, load 15 101 refCurve.points,
          load 15 60 [⟨1, 0⟩, ⟨1000, 0⟩], load 15 20 [⟨0, 0⟩, ⟨0, 0⟩, ⟨1000, 0⟩], load 15 100 [⟨0, 0⟩, ⟨999, 0⟩],
          load 15 100 [⟨0, 0⟩, ⟨500, 4001⟩, ⟨1000, 0⟩]].all fun p =>
        decide ((given settled 0x11 p).holds .curveLoad (tel 0x11 p))) = true := by decide +kernel

theorem witness_TowerTrimExecuted :
    [[(12 : Byte), 60, 100], [1, 60, 100], [0, 60, 100], [0, 19, 201]].all (fun p =>
        decide ((given settled 0x12 p).holds .towerTrim (tel 0x12 p))) = true ∧
      (settled.tower 1).setup.enabled = false ∧ (settled.tower 0).setup.enabled = true ∧
      (settled.tower 0).setup.sweep = 60 ∧ (settled.tower 0).setup.towerTrim = 100 := by decide +kernel

/-- The header of a Begin. -/
def header (mode : LoadMode) (pitch : Nat) : List Byte :=
  0 :: loadModeCode mode :: be16 4101 ++ byteOf 8 :: be16 pitch ++ be16s 0 ++ be16 0 ++ be16 3200

/-- Tower 0 with a Staged profile of the given mode and status, all but zone 7 marked. -/
def staged (mode : LoadMode) (st : StagedStatus) (marks : List Bool) : State :=
  with0 { refTower with staged := some ⟨st, { refBody with mode := mode }, marks, 7⟩,
                        idle := if st = .loading then some 2000 else none }

/-- Marks of eight zones, the last one given. -/
def marksTo (last : Bool) : List Bool := [true, true, true, true, true, true, true, last]

/-- A Begin of tower 0, its geometry given by the pitch. -/
def beginTel (mode : LoadMode) (pitch : Nat) : Telegram := tel 0x20 (header mode pitch)

/-- The judgement of the last free place while the Handler waits for one: Forward is not present (R13, R130; log 23). -/
theorem test_last_place :
    let s := takeable (tel 0x51 [])
    ({ s with drive := { s.drive with forward := [makeTelegram 0x20 1 0x90 []] } } : State).chosen = none := by
  decide +kernel

/-- A delta Begin in hand over a Staged profile of the status. -/
def overStaged (st : StagedStatus) (pitch : Nat) : State :=
  given (staged .full st (marksTo true)) 0x20 (header .delta pitch)

theorem witness_ProfileBeginExecuted :
    ((given settled 0x20 (header .full 400)).holds .profileBegin (beginTel .full 400) ∧
        ((given settled 0x20 (header .full 400)).tower 0).setup.enabled = true ∧ refBody.ok) ∧
      ((given settled 0x20 (header .delta 400)).holds .profileBegin (beginTel .delta 400) ∧
        ((given settled 0x20 (header .delta 400)).tower 0).staged = none ∧ ({ refBody with mode := .delta } : ProfileBody).ok) ∧
      ((overStaged .complete 400).holds .profileBegin (beginTel .delta 400) ∧ ((overStaged .complete 400).tower 0).staged =
        some ⟨.complete, refBody, marksTo true, 7⟩) ∧
      ((overStaged .complete 50).holds .profileBegin (beginTel .delta 50) ∧ refBody.zonePitch ≠ 50 ∧
        ({ refBody with mode := .delta, zonePitch := 50 } : ProfileBody).ok) ∧
      ((overStaged .loading 400).holds .profileBegin (beginTel .delta 400) ∧ ((overStaged .loading 400).tower 0).staged =
        some ⟨.loading, refBody, marksTo true, 7⟩) ∧
      (overStaged .incomplete 400).holds .profileBegin (beginTel .delta 400) ∧
      (let begin (p : List Byte) := given (staged .full .loading (marksTo true)) 0x20 p
      let last : List Byte := 0 :: 0 :: be16 1 ++ 96 :: be16 600 ++ be16s (-3000) ++ be16 16000 ++ be16 16000
      ([12 :: (header .full 400).tail, 1 :: (header .full 400).tail, 0 :: 2 :: (header .full 400).drop 2, last].all fun p =>
        decide ((begin p).holds .profileBegin (tel 0x20 p) ∧ ((begin p).tower 0).loading.isSome = true)) = true ∧
        ((begin last).tower 1).setup.enabled = false ∧ ((begin last).tower 0).setup.enabled = true ∧
        (decide (byteAt last 1 ≤ 1 ∧ 1 ≤ u16At last 2 ∧ byteAt last 4 ≤ 96 ∧ u16At last 5 ≤ 600 ∧ -3000 ≤ s16At last 7 ∧
          u16At last 9 ≤ 16000) && !decide (u16At last 9 < u16At last 11)) = true) :=
  ⟨by decide +kernel, by decide +kernel, by decide +kernel, by decide +kernel, by decide +kernel, by decide +kernel,
    by decide +kernel⟩

theorem witness_ZonesPlaced :
    let p (present start : Byte) : List Byte := 0 :: present :: start :: [1000, 65535].flatMap be16 ++ [9]
    let q : Staged := ⟨.loading, refBody, marksTo false, 7⟩
    ([((0 : Byte), (0 : Byte)), (1, 7)].all fun c =>
      decide ((given (staged .full .loading (marksTo false)) 0x21 (p c.1 c.2)).holds .profileZones (tel 0x21 (p c.1 c.2)))) =
        true ∧
      ((staged .full .loading (marksTo false)).tower 0).loading = some q ∧ (∀ v ∈ [1000, 65535], v < 65536) ∧
      (7 : Byte).toNat < q.body.zoneCount ∧
      (q.body.zones.length = q.body.zoneCount ∧ q.written.length = q.body.zoneCount ∧ 8 ≤ q.body.zoneCount ∧
        ({ q.body with clampedCount := 65535, overrunCount := 65535 } : ProfileBody).clampedCount ≤ 65535) ∧
      (7 ≤ 7 ∧ [1000, 65535][7 - 7]? = some 1000 ∧ 6 < 7 ∧ [65535][7 - 7]? = some 65535) ∧
      ([[(12 : Byte), 2, 0, 0, 0], [11, 2, 0, 0, 0], [0, 1, 8, 0, 0]].all fun p =>
        decide ((given (staged .full .loading (marksTo false)) 0x21 p).holds .profileZones (tel 0x21 p))) = true ∧
      q.body.zoneCount ≤ byteAt [0, 1, 8, 0, 0] 2 := by decide +kernel

theorem witness_LoadClosed :
    let s (mode : LoadMode) (last : Bool) := given (staged mode .loading (marksTo last)) 0x22 [0]
    ([(LoadMode.full, true), (.full, false), (.delta, false)].all fun c =>
      decide ((s c.1 c.2).holds .profileEnd (tel 0x22 [0]) ∧ ((s c.1 c.2).tower 0).loading.isSome = true)) = true ∧
      (∀ m ∈ marksTo true, m = true) ∧ ¬ (∀ m ∈ marksTo false, m = true) ∧
      ((given settled 0x22 [0]).holds .profileEnd (tel 0x22 [0]) ∧ ((given settled 0x22 [0]).tower 0).loading = none) ∧
      (given settled 0x21 [11, 1, 0, 0, 0]).holds .profileZones (tel 0x21 [11, 1, 0, 0, 0]) ∧
      ((given settled 0x21 [11, 1, 0, 0, 0]).tower 11).loading = none ∧ byteAt [11, 1, 0, 0, 0] 1 ≤ 1 ∧
      (given settled 0x22 [12]).holds .profileEnd (tel 0x22 [12]) := by decide +kernel

/-- The payload of a JOB_COMMIT. -/
def commit (mask job : Nat) (flags : Byte) : List Byte := be16 mask ++ be16 job ++ [flags]

theorem witness_JobCommitAccepted :
    let p := commit 1 4101 (byteOf ((if true then 1 else 0) + (if true then 2 else 0)))
    let s := given (staged .full .incomplete (marksTo false)) 0x23 p
    s.holds .jobCommit (tel 0x23 p) ∧ 0 < 1 ∧ 1 < 4096 ∧ 0 < 4101 ∧ 4101 < 65536 ∧ s.press.state ≠ .printing ∧
      (∀ i : TowerIx, Nat.testBit 1 i.val = true → i = 0) ∧ (s.tower 0).setup.enabled = true ∧
      (s.tower 0).staged = some ⟨.incomplete, refBody, marksTo false, 7⟩ ∧ refBody.job = 4101 := by decide +kernel

theorem witness_KeyTrimAccepted :
    let p : List Byte := 0 :: flagByte true :: 8 :: [-32768].flatMap be16s
    let s := given settled 0x30 p
    let w := s.tower 0
    s.holds .keyTrim (tel 0x30 p) ∧ w.setup.enabled = true ∧ 1 ≤ 8 ∧ 8 + [(-32768 : Int)].length ≤ w.setup.keyCount + 1 ∧
      w.setup.keyCount ≤ 48 ∧ w.keys.map Key.index = List.range' 1 w.setup.keyCount ∧
      ∀ v ∈ [(-32768 : Int)], -32768 ≤ v ∧ v ≤ 32767 := by decide +kernel

theorem witness_DensityGating :
    let k (c : Option Computed) (st : KeyState) : Key := ⟨1, c, 0, 0, none, some 100, st, 0, some 0⟩
    let c : Computed := ⟨0, 0, 100, .none⟩
    (k none .held).computed = none ∧ (k (some { c with saturation := .closed }) .settled).computed ≠ none ∧
      (k (some c) .pending).state ≠ .settled ∧ (k (some c) .settled).settledAt = some 0 ∧
      ((19 : Sheets).toNat + (2 ^ 32 - (0 : Sheets).toNat)) % 2 ^ 32 < refSetup.lagSheets ∧
      refSetup.lagSheets ≤ ((20 : Sheets).toNat + (2 ^ 32 - (0 : Sheets).toNat)) % 2 ^ 32 ∧
      (3 : Int).natAbs ≤ refSetup.deadBand ∧ refSetup.deadBand < (-4 : Int).natAbs ∧ (-32768 : Int) = -32768 := by
  decide +kernel

theorem witness_DensityIncrement :
    let u : Setup := { refSetup with gain := 5 }
    (10 * (2 * (1 : Int) - 1) < -(2 * (-2) * (u.gain : Int)) ∧ -(2 * (-2) * (u.gain : Int)) < 10 * (2 * 1 + 1)) ∧
      (0 < (1 : Int) ∧ -(2 * (-1) * (u.gain : Int)) = 10 * (2 * 1 - 1)) ∧
      ((-1 : Int) < 0 ∧ -(2 * 1 * (u.gain : Int)) = 10 * (2 * (-1) + 1)) ∧ ({ u with gain := 0 } : Setup).gain = 0 ∧
      (let v : Setup := { u with gain := 400 }
      (10 * (2 * (-8000 : Int) - 1) < -(2 * 200 * (v.gain : Int)) ∧ -(2 * 200 * (v.gain : Int)) < 10 * (2 * (-8000) + 1)) ∧
        (200 : Int).natAbs ≤ 200 ∧ v.gain ≤ 400) := by
  decide +kernel

/-- A report of one deviation for key 8 of tower 0 while PRINTING. -/
def reported (p : List Byte) : State := given { settled with press := ⟨.printing, .released, .normal⟩ } 0x31 p

theorem witness_DensityReportAccepted :
    let p : List Byte := 0 :: byteOf 8 :: [32767].flatMap be16s
    let s := reported p
    let w := s.tower 0
    s.holds .densityReport (tel 0x31 p) ∧ s.press.state = .printing ∧ w.setup.enabled = true ∧ 1 ≤ 8 ∧
      8 + [(32767 : Int)].length ≤ w.setup.keyCount + 1 ∧ w.setup.keyCount ≤ 48 ∧
      w.keys.map Key.index = List.range' 1 w.setup.keyCount ∧ ∀ v ∈ [(32767 : Int)], -32768 ≤ v ∧ v ≤ 32767 := by
  decide +kernel

theorem witness_CommitAndFeedbackRefused :
    ([(0, 1, (0 : Byte)), (4096, 1, 0), (1, 0, 0), (1, 1, 4), (1, 1, 3), (2, 1, 0), (1, 4101, 0)].all fun c =>
        decide ((given settled 0x23 (commit c.1 c.2.1 c.2.2)).holds .jobCommit (tel 0x23 (commit c.1 c.2.1 c.2.2)))) = true ∧
      ({ settled with press := ⟨.printing, .released, .normal⟩ } : State).press.state = .printing ∧
      ((settled.tower 1).setup.enabled = false ∧ Nat.testBit 2 1 = true ∧ ∀ j : TowerIx, j < 1 → Nat.testBit 2 j.val = false) ∧
      ((settled.tower 0).staged = none ∧ Nat.testBit 1 0 = true) ∧
      ((staged .full .incomplete (marksTo false)).tower 0).staged = some ⟨.incomplete, refBody, marksTo false, 7⟩ ∧
      (((staged .full .complete (marksTo true)).tower 0).staged = some ⟨.complete, refBody, marksTo true, 7⟩ ∧
        refBody.job ≠ 1) ∧
      ([[(12 : Byte), 0, 1, 0, 0], [1, 0, 1, 0, 0], [0, 2, 1, 0, 0], [0, 0, 0, 0, 0], [0, 0, 9, 0, 0]].all fun p =>
        decide ((given settled 0x30 p).holds .keyTrim (tel 0x30 p))) = true ∧
      ([[(12 : Byte), 1, 0, 0], [1, 1, 0, 0], [0, 0, 0, 0], [0, 9, 0, 0]].all fun p =>
        decide ((reported p).holds .densityReport (tel 0x31 p))) = true ∧
      (given settled 0x31 [0, 1, 0, 0]).press.state ≠ .printing := by decide +kernel

theorem witness_FaultClearExecuted :
    ([[(12 : Byte), 0], [1, 0], [0, 1], [0, 0], [0, 0xFF]].all fun p =>
        decide ((given settled 0x38 p).holds .faultClear (tel 0x38 p))) = true ∧
      (settled.tower 1).setup.enabled = false ∧ (settled.tower 0).setup.enabled = true ∧
      (settled.tower 0).setup.keyCount ≤ 12 * (1 : Byte).toNat ∧ 12 * (0 : Byte).toNat < (settled.tower 0).setup.keyCount := by
  decide +kernel

theorem witness_SweepAndPressConfigured :
    ([[(2 : Byte), 0, 19, 1], [0, 0, 20, 0], [1, 0xFF, 0xFF, 65]].all fun p =>
        decide ((given settled 0x40 p).holds .sweepConfig (tel 0x40 p))) = true ∧ 65535 < 65536 ∧
      ([[(3 : Byte)], [2], [0]].all fun p => decide ((given settled 0x48 p).holds .pressState (tel 0x48 p))) = true ∧
      pressCode .printing = 2 := by decide +kernel

/-- The part in PASSTHROUGH. -/
def passing : State := { settled with press := ⟨.stopped, .released, .passthrough⟩ }

theorem witness_ModeExecuted :
    ([[(2 : Byte)], [1], [0]].all fun p => decide ((given settled 0x49 p).holds .mode (tel 0x49 p))) = true ∧
      modeCode settled.press.mode = 0 ∧
      (settled.press.mode = .normal ∧ ∀ i, (settled.tower i).setup.enabled = true → (settled.tower i).keys ≠ []) ∧
      (given passing 0x49 [0]).holds .mode (tel 0x49 [0]) ∧ passing.press.mode = .passthrough ∧
      passing.poller.roundActive = false := by decide +kernel

theorem witness_HoldFollowed :
    settled.ready ∧ settled.press.hold = .released ∧
      ({ settled with press := ⟨.stopped, .asserted, .normal⟩ } : State).press.hold = .asserted := by decide +kernel

/-- Two sources become due in one event, and 4 places are free: the first raised is sent, the other is not (R183). -/
theorem test_two_sources :
    ((((queued 12 settled).raiseAll [(5, .group 0 1), (2, .group 0 0), (5, .none)]).judgeNotices).console.tx.drop 12).map
      (fun t => t.payload.map BitVec.toNat) = [[5, 3, 0, 1, 1, 2]] := by decide +kernel

theorem witness_OccurrencesMerge :
    settled.attention.due = [] ∧ (settled.source 3).pending = none ∧
      ((noticed 0).source 0).pending = some ⟨1, .level .asserted⟩ ∧ 1 ≤ 255 ∧
      ((settled.withSource 0 ⟨0, false, some ⟨255, .none⟩⟩).source 0).pending = some ⟨255, .none⟩ := by decide +kernel

theorem witness_AttentionCommandsExecuted :
    ([[(12 : Byte), 0, 0], [11, 8, 0], [11, 7, 2], [11, 7, 1], [0, 0, 0]].all fun p =>
        decide ((given (noticed 0) 0x50 p).holds .attentionConfig (tel 0x50 p))) = true ∧
      ((given settled 0x51 []).holds .attentionPoll (tel 0x51 []) ∧ (given settled 0x51 []).selectSource = none) ∧
      (given (noticed 0) 0x51 []).holds .attentionPoll (tel 0x51 []) ∧ (given (noticed 0) 0x51 []).selectSource = some 0 ∧
      ((given (noticed 0) 0x51 []).source 0).pending = some ⟨1, .level .asserted⟩ := by decide +kernel

theorem witness_PartQueriesAnswered :
    ([[(0x00 : Byte)], [0x05, 16], [0x05, 15], [0x05, 1], [0x06]].all fun p =>
        decide ((given settled 0x58 p).holds .query (tel 0x58 p))) = true ∧
      settled.drive.rotation.length = 12 ∧ (∀ i, (settled.source i).priority ≤ 7) ∧ settled.curve 15 = none ∧
      settled.curve 1 = some refCurve := by decide +kernel

theorem witness_TowerQueriesAnswered :
    ([[(0x01 : Byte), 12], [0x01, 11], [0x02, 12, 1, 1], [0x02, 1, 1, 1], [0x02, 0, 8, 0], [0x02, 0, 1, 6],
        [0x02, 0, 0, 1], [0x02, 0, 8, 2], [0x02, 0, 4, 5], [0x02, 0, 8, 1], [0x03, 12], [0x03, 1], [0x03, 0]].all fun p =>
        decide ((given settled 0x58 p).holds .query (tel 0x58 p) ∧ (tel 0x58 p).payload[1]? = some (p.getD 1 0))) = true ∧
      (settled.tower 0).setup.enabled = true ∧ (settled.tower 1).setup.enabled = false ∧
      (settled.tower 0).keys.length = (settled.tower 0).setup.keyCount ∧
      (settled.tower 0).keys[4 - 1 + 4]? = some (refKey 8) ∧ (refKey 8).computed ≠ none := by decide +kernel

theorem witness_ProfileQueryAnswered :
    ([[(0x04 : Byte), 12, 0, 0, 1], [0x04, 0, 2, 0, 1], [0x04, 0, 0, 0, 0], [0x04, 0, 0, 0, 49], [0x04, 11, 1, 0, 48],
        [0x04, 0, 1, 8, 1], [0x04, 0, 1, 7, 48]].all fun p =>
        decide ((given settled 0x58 p).holds .query (tel 0x58 p))) = true ∧
      (settled.tower 11).active = none ∧ (settled.tower 0).active = some ⟨true, refBody⟩ ∧
      refBody.zones.length = refBody.zoneCount ∧ refBody.zones[7 + 0]? = some 0 := by decide +kernel

/-- A round over two entries of tower 0, of which the second is stale. -/
def inRound (latched : Bool) : State :=
  { settled with poller := { settled.poller with
    roundActive := true, roundPending := latched, cursor := 0, inHand := true,
    pollList := [⟨0, 0, 0x20, 1⟩, ⟨0, 1, 0x21, 1⟩, ⟨0, 0, 0x20, 1⟩] } }

theorem witness_TriggersAndRounds :
    (settled.ready ∧ settled.poller.sweepTimer.isSome = true ∧ settled.poller.source = .timer) ∧
      ([(7, 8), (8, 8)].all fun c =>
        let s := { settled with poller := { settled.poller with
          source := .sheet, sweepTimer := none, dividerCount := c.1 - 1, divider := c.2 } }
        decide (s.ready ∧ s.poller.sweepTimer = none ∧ s.poller.source = .sheet)) = true ∧
      6 + 1 < 8 ∧ 8 ≤ 7 + 1 ∧ passing.press.mode = .passthrough ∧
      ([(inRound true).poller.roundPending, !(inRound false).poller.roundPending].all id) = true ∧
      (settled.press.mode = .normal ∧ settled.poller.roundActive = false) ∧
      (settled.tower 1).groups = [] ∧ ∀ i, ((settled.tower i).groups.map Group.index).Pairwise (· < ·) := by
  decide +kernel

theorem witness_CursorAdvances :
    (let s := inRound false
    s.poller.inHand = true ∧ s.poller.cursor < 2 ∧ s.poller.pollList[2]? = some ⟨0, 0, 0x20, 1⟩ ∧
        (s.tower 0).groups.find? (fun r => r.index = 0) = some ⟨0, .present, 0, false, false, none, 1, 0⟩ ∧
        (s.tower 0).groups.find? (fun r => r.index = 1) = none) ∧
      settled.poller.inHand = false ∧
      ([true, false].all fun latched =>
        let s := { inRound latched with poller := { (inRound latched).poller with cursor := 2 } }
        decide (s.poller.inHand = true ∧ s.poller.pollList.length = 3 ∧ s.poller.roundPending = latched)) = true := by
  decide +kernel

theorem witness_ArbiterOrder : (refTower.groups.map Group.index).Nodup := by decide +kernel

/-- A telegram at the head of the forward queue, and the line FREE. -/
def forwarding (t : Telegram) : State := { settled with drive := { settled.drive with forward := [t] } }

theorem witness_HaltAndForwardGranted :
    (let s := { settled with drive := { settled.drive with haltPending := true } }
    s.ready ∧ s.drive.line = .free ∧ s.chosen = some .halt) ∧
      (let t := makeTelegram 0xFF 1 0x90 []
      (forwarding t).drive.line = .free ∧ (forwarding t).chosen = some .forward ∧ (forwarding t).drive.forward = t :: []) ∧
      (let t := makeTelegram (nodeAddress 0 3) 1 0x90 []
      (forwarding t).drive.line = .free ∧ (forwarding t).chosen = some .forward ∧ t.dest = nodeAddress 0 3) ∧
      (onLine settled moveWait).drive.line ≠ .free ∧ settled.chosen ≠ some .halt ∧ settled.chosen ≠ some .forward ∧
      settled.chosen ≠ some .sweep ∧ settled.chosen ≠ some .move := by decide +kernel

theorem witness_SweepAndMoveGranted :
    (let s := { inRound false with poller := { (inRound false).poller with inHand := false } }
    s.ready ∧ s.drive.line = .free ∧ s.chosen = some .sweep ∧ s.poller.pollList[s.poller.cursor]? = some ⟨0, 0, 0x20, 1⟩ ∧
        (s.tower 0).groups.find? (fun r => r.index = 0) = some ⟨0, .present, 0, false, false, none, 1, 0⟩) ∧
      (let s := { pending3 with drive := { pending3.drive with rotation := [1, 0, 2, 3, 4, 5, 6, 7, 8, 9, 10, 11] } }
      s.ready ∧ s.drive.line = .free ∧ s.chosen = some .move ∧
        s.drive.rotation = [1] ++ 0 :: [2, 3, 4, 5, 6, 7, 8, 9, 10, 11] ∧ (0 : TowerIx) ∉ [(1 : TowerIx)] ∧
        (∀ j ∈ [(1 : TowerIx)], ∀ g, (s.tower j).eligible g = false) ∧ (s.tower 0).eligible 0 = true ∧
        (s.tower 0).groups.find? (fun r => r.index = 0) = some ⟨0, .present, 0, false, false, none, 1, 0⟩) := by
  decide +kernel

theorem witness_SendingEnds :
    let r : Transaction := ⟨0x20, .move 1 [(3, 1400)], 20⟩
    let t := makeTelegram 0x20 8 0x90 []
    (onLine settled (.sending (.transaction r) t false)).ready ∧
      (onLine settled (.sending (.transaction r) t false)).drive.line = .sending (.transaction r) t false ∧
      (onLine settled (.sending (.transaction r) t true)).drive.line = .sending (.transaction r) t true ∧
      (onLine settled (.sending .broadcast t true)).drive.line = .sending .broadcast t true ∧
      (onLine settled (.sending .halt haltTelegram true)).drive.line = .sending .halt haltTelegram true ∧
      (onLine settled (.sending .halt haltTelegram false)).drive.line = .sending .halt haltTelegram false ∧
      (onLine settled (.sending .halt haltTelegram false)).phasesOk ∧
      (onLine settled (.gap 0)).drive.line = .gap 0 := by decide +kernel

theorem witness_DriveTelegramDiscarded :
    settled.ready ∧ settled.drive.line = .free ∧ receive [⟨0x5C, false⟩] = .invalid ∧
      (onLine settled moveWait).drive.line = moveWait ∧
      receive (chars 8 0x21 0x91 []) = .valid (makeTelegram 8 0x21 0x91 []) ∧ (0x21 : Byte) ≠ 0x20 ∧
      receive (chars 1 0x20 0x91 []) = .valid (makeTelegram 1 0x20 0x91 []) ∧
      receive (chars 8 0x20 0x92 [3]) = .valid (makeTelegram 8 0x20 0x92 [3]) ∧
      receive (chars 8 0x20 0x99 [0]) = .valid (makeTelegram 8 0x20 0x99 [0]) ∧
      (onLine settled statusWait).drive.line = statusWait := by decide +kernel

theorem witness_MoveReplied :
    let s := onLine pending3 moveWait
    s.ready ∧ s.drive.line = .waiting ⟨nodeAddress 0 0, .move 1 [(3, 1400)], 20⟩ 20 ∧
      ([((0x91 : Byte), ([] : List Byte)), (0x92, [1]), (0x92, [2])].all fun c =>
        decide (receive (chars 8 0x20 c.1 c.2) = .valid (makeTelegram 8 0x20 c.1 c.2))) = true ∧
      (makeTelegram 8 0x20 0x91 []).src = nodeAddress 0 0 ∧ (makeTelegram 8 0x20 0x91 []).dest = 0x08 ∧
      (s.tower 0).groups.find? (fun r => r.index = 0) = some ⟨0, .present, 0, false, false, none, 1, 0⟩ ∧
      ∀ r ∈ ((onLine pending3 moveWait).tower 0).groups.find? (fun r => r.index = 1), r.generation ≠ 1 := by decide +kernel

theorem witness_StatusTaken :
    let entries : List (Byte × Byte × Byte) := (List.range' 1 8).map fun i => (byteOf i, 0xCF, 0xFF)
    let p : List Byte := 1 :: entries.flatMap fun e => [e.1, e.2.1, e.2.2]
    let absent := with0 { refTower.withKeys (refTower.keys.map fun k => { k with state := .unreachable }) with
      groups := [⟨0, .absent, 3, false, false, none, 1, 0⟩] }
    ((onLine settled statusWait).ready ∧ (onLine settled statusWait).drive.line =
        .waiting ⟨nodeAddress 0 0, .status 1 [1, 2, 3, 4, 5, 6, 7, 8], 20⟩ 20) ∧
      receive (chars 8 0x20 0x99 p) = .valid (makeTelegram 8 0x20 0x99 p) ∧
      entries.map (fun e => e.1.toNat) = [1, 2, 3, 4, 5, 6, 7, 8] ∧
      ((onLine settled statusWait).tower 0).groups.find? (fun r => r.index = 0) =
        some ⟨0, .present, 0, false, false, none, 1, 0⟩ ∧
      ((onLine absent statusWait).tower 0).groups.find? (fun r => r.index = 0) =
        some ⟨0, .absent, 3, false, false, none, 1, 0⟩ ∧
      ((onLine settled statusWait).tower 0).groups.find? (fun r => r.index = 1) = none := by decide +kernel

theorem witness_GroupTimersExpire :
    let missed := with0 { refTower with groups := [⟨0, .present, 2, false, false, none, 1, 65535⟩] }
    let busy := with0 { refTower.withKeys (refTower.keys.map fun k => { k with state := .moving }) with
      groups := [⟨0, .present, 0, true, false, some 0, 1, 0⟩] }
    (onLine missed moveWait).ready ∧
      (onLine missed moveWait).drive.line = .waiting ⟨nodeAddress 0 0, .move 1 [(3, 1400)], 20⟩ 20 ∧
      (onLine missed statusWait).drive.line = .waiting ⟨nodeAddress 0 0, .status 1 [1, 2, 3, 4, 5, 6, 7, 8], 20⟩ 20 ∧
      (missed.tower 0).groups.find? (fun r => r.index = 0) = some ⟨0, .present, 2, false, false, none, 1, 65535⟩ ∧
      (missed.tower 0).groups.find? (fun r => r.index = 1) = none ∧ busy.ready ∧
      (busy.tower 0).groups.find? (fun r => r.index = 0) = some ⟨0, .present, 0, true, false, some 0, 1, 0⟩ ∧
      (settled.tower 0).groups.find? (fun r => r.index = 0) = some ⟨0, .present, 0, false, false, none, 1, 0⟩ := by
  decide +kernel

theorem witness_ForwardEnds :
    let s := onLine settled (.waiting ⟨0x20, .forward 0x90, 20⟩ 0)
    s.ready ∧ s.drive.line = .waiting ⟨0x20, .forward 0x90, 20⟩ 0 ∧
      receive (chars 0x77 0x20 0x10 []) = .valid (makeTelegram 0x77 0x20 0x10 []) ∧
      (makeTelegram 0x77 0x20 0x10 []).src = 0x20 := by decide +kernel

theorem witness_EntryAndRecomputeTables :
    let k (st : KeyState) (c : Option Computed) (sent : Option Nat) (retry : Nat) : Key :=
      ⟨3, c, 0, 0, sent, some 92, st, retry, none⟩
    let c : Computed := ⟨0, 0, 100, .none⟩
    ((92 ≤ 100 + 8 ∧ 100 ≤ 92 + 8) ∧ ¬ (91 ≤ 100 + 8 ∧ 100 ≤ 91 + 8)) ∧
      (k .moving (some c) (some 100) 2).retry < 3 ∧ 3 ≤ (k .moving (some c) (some 100) 3).retry ∧
      (k .moving none none 0).sentTarget = none ∧ (k .held none none 0).computed = none ∧
      (k .settled (some c) none 0).lastReported = some 92 ∧
      (onLine pending3 moveWait).onLine 0 (refKey 3) = true ∧ (onLine pending3 moveWait).onLine 0 (refKey 4) = false := by
  decide +kernel

theorem witness_RoundingModes :
    0 < 2 ∧ 2 * (-5 : Int) = (2 : Nat) * (2 * (-3) + 1) ∧ (-4 : Int) = (2 : Nat) * (-2) ∧ (0 : Int) ≤ 0 ∧ (-1 : Int) < 0 ∧
      ∀ m : Int, 2 * (-3 : Int) ≠ (4 : Nat) * (2 * m + 1) :=
  ⟨by decide, by decide, by decide, by decide, by decide, fun m => by omega⟩

theorem witness_StagesOfAKey :
    refSetup.inRanges ∧ refBody.ok ∧ refCurve.ok ∧ (computeStages refSetup refBody refCurve (refKey 3)).coverage = 400 ∧
      refCurve.points[0]? = some ⟨0, 200⟩ ∧ refCurve.points[0 + 1]? = some ⟨1000, 3200⟩ ∧
      (computeStages refSetup refBody refCurve (refKey 8)).coverage = 0 ∧ (⟨0, 200⟩ : Point) ∈ refCurve.points := by
  decide +kernel

/-- A state that is not the one after reset, in which every invariant holds. -/
def busyPart : State := { pending3 with pending := [.moveGrant] }

theorem witness_PlacesKept : busyPart.placesOk ∧ step busyPart = .next (afterStep busyPart) := ⟨by decide +kernel, rfl⟩

theorem witness_ItemsKept : busyPart.itemsOk ∧ step busyPart = .next (afterStep busyPart) := ⟨by decide +kernel, rfl⟩

theorem witness_PollerKept : busyPart.pollerOk ∧ step busyPart = .next (afterStep busyPart) := ⟨by decide +kernel, rfl⟩

theorem witness_TablesAndProfilesKept :
    busyPart.tablesOk ∧ busyPart.profilesOk ∧ step busyPart = .next (afterStep busyPart) :=
  ⟨⟨by decide +kernel, by decide +kernel⟩, by decide +kernel, rfl⟩

theorem witness_RecordsKept : busyPart.recordsOk ∧ step busyPart = .next (afterStep busyPart) := ⟨by decide +kernel, rfl⟩

theorem witness_KeysKept : busyPart.keysOk ∧ step busyPart = .next (afterStep busyPart) := ⟨by decide +kernel, rfl⟩

theorem witness_PhasesAndTargetsKept :
    busyPart.phasesOk ∧ busyPart.targetsOk ∧ step busyPart = .next (afterStep busyPart) :=
  ⟨by decide +kernel, by decide +kernel, rfl⟩

theorem witness_ItemsChangeOnlyAtTheirCommands :
    busyPart.pending = .moveGrant :: [] ∧ step busyPart = .next (afterStep busyPart) ∧
      (∀ h, Instr.moveGrant ≠ .powerOn h ∧ Instr.moveGrant ≠ .nresetRelease h ∧ Instr.moveGrant ≠ .coldRestart h) ∧
      (afterStep busyPart).drive.rotation ≠ busyPart.drive.rotation ∧
      (let s := { staged .full .loading (marksTo true) with pending := [.profileIdleExpiry 0] }
      ((afterStep s).tower 0).staged ≠ (s.tower 0).staged) ∧ settled.pending = [] ∧
      step settled = .next (afterStep settled) :=
  ⟨rfl, rfl, fun _ => ⟨Instr.noConfusion, Instr.noConfusion, Instr.noConfusion⟩, by decide +kernel, by decide +kernel, rfl,
    rfl⟩

theorem witness_NoMoveUnderHold :
    step busyPart = .next (afterStep busyPart) ∧ (afterStep busyPart).drive.line.hasMove = true ∧
      busyPart.drive.line.hasMove = false := ⟨rfl, by decide +kernel, by decide +kernel⟩

end Sys2Proof.Tests
end

section
/-! PROOFS. TOWER_TRIM (R27, R28): the clamp, the recompute of a tower just replaced, and the event of a management
command that replaces one tower and derives its Phase. -/

namespace Sys2Proof.Machine

/-! ### Fields and the clamp -/

/-- The model's clamp in the words of the statements. -/
theorem clampNat_eq_max_min {lo hi : Nat} (h : lo ≤ hi) (n : Nat) : clampNat lo hi n = max lo (min hi n) := by
  unfold clampNat
  split
  · omega
  · split <;> omega

@[simp] theorem byteOf_toNat_self (b : Byte) : byteOf b.toNat = b := by simp [byteOf]

theorem towerOf_eq_none {n : Nat} (h : 11 < n) : towerOf n = none := by
  simp only [towerOf, dif_neg (show ¬ n < 12 by omega)]

theorem towerOf_eq_some {n : Nat} {i : TowerIx} (h : i.val = n) : towerOf n = some i := h ▸ towerOf_val i

/-- A REPLY over two clamped fields is CLAMPED unless both were stored as they were asked for. -/
theorem Result.ofClamped_pair (a b x y : Nat) :
    Result.ofClamped (x != a || y != b) = if x = a ∧ y = b then .ok else .clamped := by
  by_cases hx : x = a <;> by_cases hy : y = b <;> simp [Result.ofClamped, hx, hy]

/-! ### The recompute of a tower just replaced (R77) -/

/-- What is on the line depends on a tower through its Generation alone (R106). -/
theorem State.onLine_withTower (s : State) {t : TowerIx} {v : Tower} (h : v.generation = (s.tower t).generation)
    (i : TowerIx) (k : Key) : (s.withTower t v).onLine i k = s.onLine i k := by
  have generation : ((s.withTower t v).tower i).generation = (s.tower i).generation := by
    rw [State.withTower_tower]
    split
    · rename_i e
      rw [e, h]
    · rfl
  simp only [State.onLine, generation, State.withTower_drive]

/-- A key's recompute reads the tower it is given, and of the stored towers the Generation alone (R75, R106). -/
theorem State.keyRecomputed_withTower (s : State) {t : TowerIx} {v : Tower}
    (h : v.generation = (s.tower t).generation) (w : Tower) (k : Key) :
    (s.withTower t v).keyRecomputed t w k = s.keyRecomputed t w k := by
  simp only [State.keyRecomputed, State.onLine_withTower s h, State.withTower_curve, State.withTower_sheetCount]

/-- A tower replaced by one of its Generation and then recomputed (R77). -/
theorem State.recomputeTower_withTower (s : State) {t : TowerIx} {v : Tower}
    (h : v.generation = (s.tower t).generation) :
    (s.withTower t v).recomputeTower t =
      (s.withTower t { v with keys := v.keys.map (s.keyRecomputed t v) }).derivePhase t := by
  have same : (s.withTower t v).keyRecomputed t v = s.keyRecomputed t v :=
    funext (s.keyRecomputed_withTower h v)
  rw [State.recomputeTower_eq, State.withTower_tower_self, same]
  simp [State.withTower]

/-! ### The event of a command that replaces one tower -/

/-- The answer and the derivation of a Phase do not touch each other before the notices are judged. -/
theorem State.derivePhase_answered (s : State) (i : TowerIx) (kind : Byte) (t : Telegram) (r : Result)
    (data : List Byte) : (s.derivePhase i).answered kind t r data = (s.answered kind t r data).derivePhase i := by
  rw [State.derivePhase_eq, State.derivePhase_eq, State.raiseAll_answered]
  rfl

/-- The command of a kind, when its rules replace one tower and derive its Phase. -/
theorem management_derived {s : State} {k : Kind} {t : Telegram} (h : s.holds k t)
    {rules : State → List Byte → Answer} {i : TowerIx} {v : Tower} {r : Result} {data : List Byte}
    (e : rules s t.payload = { state := (s.withTower i v).derivePhase i, result := r, data := data }) :
    management k rules s =
      .next (((s.withTower i { v with phase := v.derivedPhase }).replied t r data).phaseChanged i v.phase
        v.derivedPhase) := by
  have quiet : (s.answered 0x80 t r data).attention.due = [] := h.1.2
  rw [management, event_released h.1.1, executeHeld_of_holds h, e, State.derivePhase_answered]
  exact congrArg _ (State.derivePhase_judgeNotices quiet i v)

/-! ### TOWER_TRIM (R27, R28) -/

theorem towerTrimRules_no_tower (s : State) {i : Byte} (a b : Byte) (h : 11 < i.toNat) :
    towerTrimRules s [i, a, b] = refuse s .badField [i] := by
  simp [towerTrimRules, byteAt, towerOf_eq_none h]

theorem towerTrimRules_off (s : State) {i : Byte} {j : TowerIx} (a b : Byte) (hj : j.val = i.toNat)
    (off : (s.tower j).setup.enabled = false) : towerTrimRules s [i, a, b] = refuse s .towerOff [i] := by
  simp [towerTrimRules, byteAt, towerOf_eq_some hj, off, hj]

/-- The rules of an enabled tower: the values stored are the clamped ones, and only a change recomputes (R27, R28). -/
theorem towerTrimRules_enabled (s : State) {i : Byte} {j : TowerIx} (a b : Byte) (hj : j.val = i.toNat)
    (on : (s.tower j).setup.enabled = true) {sweep trim : Nat} (hs : sweep = max 20 (min 100 a.toNat))
    (ht : trim = max 50 (min 200 b.toNat)) :
    towerTrimRules s [i, a, b] =
      { state := if sweep = (s.tower j).setup.sweep ∧ trim = (s.tower j).setup.towerTrim then s
          else (s.withTower j { s.tower j with
            setup := { (s.tower j).setup with sweep := sweep, towerTrim := trim } }).recomputeTower j,
        result := if sweep = a.toNat ∧ trim = b.toNat then .ok else .clamped,
        data := [i, byteOf sweep, byteOf trim] } := by
  have clampSweep : clampNat 20 100 a.toNat = sweep := hs ▸ clampNat_eq_max_min (by decide) _
  have clampTrim : clampNat 50 200 b.toNat = trim := ht ▸ clampNat_eq_max_min (by decide) _
  simp [towerTrimRules, byteAt, towerOf_eq_some hj, on, hj, clampSweep, clampTrim, Result.ofClamped_pair]

/-- Settles O19: the command is read off the rules' three cases; a change is the event that replaces one tower and
derives its Phase. -/
theorem towerTrimExecuted : Obligations.TowerTrimExecuted := by
  intro s t i a b held payload
  refine ⟨fun above => ?_, fun j hj => ⟨fun off => ?_, fun on sameSweep sameTrim => ?_, fun on changed => ?_⟩⟩
  · exact management_refused held (payload ▸ towerTrimRules_no_tower s a b above)
  · exact management_refused held (payload ▸ towerTrimRules_off s a b hj off)
  · have rules := towerTrimRules_enabled s a b hj on rfl rfl
    rw [if_pos ⟨sameSweep, sameTrim⟩] at rules
    exact management_quiet held (payload ▸ rules) held.1.2
  · have rules := towerTrimRules_enabled s a b hj on rfl rfl
    rw [if_neg changed, State.recomputeTower_withTower] at rules
    · exact management_derived held (payload ▸ rules)
    · rfl

end Sys2Proof.Machine
end

section
/-! PROOFS. The two rounding modes (R61, R62): each quotient by the half-open interval it is the only integer of. -/

namespace Sys2Proof.Machine

/-! ### Nearest, halves upward (R61) -/

/-- The quotient rounded halves upward is the one integer within half a divisor, the lower end included. -/
theorem roundUp_eq_iff {d : Nat} (hd : 0 < d) (n q : Int) :
    roundUp n d = q ↔ 2 * d * q ≤ 2 * n + d ∧ 2 * n + d < 2 * d * (q + 1) := by
  have pos : (0 : Int) < 2 * d := by omega
  rw [roundUp, Int.ediv_eq_iff_of_pos pos, mul_comm q, mul_add_one]

theorem roundUp_of_half {d : Nat} (hd : 0 < d) {n m : Int} (half : 2 * n = d * (2 * m + 1)) :
    roundUp n d = m + 1 :=
  (roundUp_eq_iff hd n _).2 ⟨by linarith, by linarith⟩

theorem roundUp_of_multiple {d : Nat} (hd : 0 < d) {n m : Int} (whole : n = d * m) : roundUp n d = m :=
  (roundUp_eq_iff hd n _).2 ⟨by linarith, by linarith⟩

/-- Off the halves the rounding is odd: negating the interval swaps its ends, and the end a half would sit on is
excluded. -/
theorem roundUp_neg {d : Nat} (hd : 0 < d) {n : Int} (noHalf : ∀ m : Int, 2 * n ≠ d * (2 * m + 1)) :
    roundUp (-n) d = -roundUp n d := by
  obtain ⟨low, high⟩ := (roundUp_eq_iff hd n _).1 rfl
  have offLow : 2 * d * roundUp n d ≠ 2 * n + d := fun e => noHalf (roundUp n d - 1) (by linarith)
  have strict := lt_of_le_of_ne low offLow
  exact (roundUp_eq_iff hd _ _).2 ⟨by linarith, by linarith⟩

/-! ### Nearest, halves away from zero (R62) -/

theorem roundAway_of_nonneg {n : Int} (h : 0 ≤ n) (d : Nat) : roundAway n d = roundUp n d := if_neg (not_lt.2 h)

theorem roundAway_of_neg {n : Int} (h : n < 0) (d : Nat) : roundAway n d = -roundUp (-n) d := if_pos h

/-- A negative half goes to the lesser neighbour: its magnitude is the half above -m - 1. -/
theorem roundAway_of_neg_half {d : Nat} (hd : 0 < d) {n m : Int} (h : n < 0) (half : 2 * n = d * (2 * m + 1)) :
    roundAway n d = m := by
  have magnitude : 2 * -n = d * (2 * (-m - 1) + 1) := by linarith
  rw [roundAway_of_neg h, roundUp_of_half hd magnitude]
  ring

theorem roundAway_of_neg_of_no_half {d : Nat} (hd : 0 < d) {n : Int} (h : n < 0)
    (noHalf : ∀ m : Int, 2 * n ≠ d * (2 * m + 1)) : roundAway n d = roundUp n d := by
  rw [roundAway_of_neg h, roundUp_neg hd noHalf, neg_neg]

/-- Settles O50: halves upward from the interval of the quotient, halves away from zero by the numerator's sign. -/
theorem roundingModes : Obligations.RoundingModes := fun n d hd =>
  ⟨(roundUp_eq_iff hd n _).1 rfl, fun _ => roundUp_of_half hd, fun _ => roundUp_of_multiple hd,
    fun h => roundAway_of_nonneg h d, fun h => roundAway_of_neg h d, fun _ => roundAway_of_neg_half hd,
    roundAway_of_neg_of_no_half hd⟩

end Sys2Proof.Machine
end

section
/-! PROOFS. The increment of a density correction (R93, R94): the signed clamp, and the rounding away from zero by the
quotient nearest to it, which is odd. -/

namespace Sys2Proof.Machine

/-! ### The signed clamp -/

/-- The model's signed clamp in the words of the statements. -/
theorem clampInt_eq_max_min {lo hi : Int} (h : lo ≤ hi) (i : Int) : clampInt lo hi i = max lo (min hi i) := by
  unfold clampInt
  split
  · omega
  · split <;> omega

/-- A clamp to a limit on both sides bounds the magnitude. -/
theorem clampInt_natAbs_le (limit : Nat) (i : Int) : (clampInt (-limit) limit i).natAbs ≤ limit := by
  rw [clampInt_eq_max_min (by omega)]
  omega

/-- A clamp to a limit on both sides is odd. -/
theorem clampInt_neg (limit : Nat) (i : Int) : clampInt (-limit) limit (-i) = -clampInt (-limit) limit i := by
  rw [clampInt_eq_max_min (by omega), clampInt_eq_max_min (by omega)]
  omega

/-! ### Rounding away from zero (R62) -/

@[simp] theorem roundAway_zero {d : Nat} (hd : 0 < d) : roundAway 0 d = 0 :=
  (roundAway_of_nonneg le_rfl d).trans (roundUp_of_multiple hd (mul_zero _).symm)

/-- The sign is taken off before the rounding and put back after it, so that the rounding is odd. -/
theorem roundAway_neg {d : Nat} (hd : 0 < d) (n : Int) : roundAway (-n) d = -roundAway n d := by
  rcases lt_trichotomy n 0 with neg | rfl | pos
  · rw [roundAway_of_neg neg, roundAway_of_nonneg (by omega), neg_neg]
  · simp [hd]
  · rw [roundAway_of_neg (neg_neg_of_pos pos), roundAway_of_nonneg pos.le, neg_neg]

/-- The rounded quotient is the integer less than half a divisor away, and at a half the one further from zero. -/
theorem roundAway_eq_of_nearest {d : Nat} (hd : 0 < d) {n q : Int}
    (nearest : (d * (2 * q - 1) < 2 * n ∧ 2 * n < d * (2 * q + 1)) ∨ (0 < q ∧ 2 * n = d * (2 * q - 1)) ∨
      (q < 0 ∧ 2 * n = d * (2 * q + 1))) : roundAway n d = q := by
  have pos : (0 : Int) < d := by exact_mod_cast hd
  rcases nearest with ⟨low, high⟩ | ⟨hq, half⟩ | ⟨hq, half⟩
  · rcases lt_or_ge n 0 with neg | nonneg
    · rw [roundAway_of_neg neg, (roundUp_eq_iff hd (-n) (-q)).2 ⟨by linarith, by linarith⟩, neg_neg]
    · rw [roundAway_of_nonneg nonneg]
      exact (roundUp_eq_iff hd n q).2 ⟨by linarith, by linarith⟩
  · have nonneg : 0 ≤ 2 * n := half ▸ mul_nonneg pos.le (by omega)
    have above : 2 * n = d * (2 * (q - 1) + 1) := by rw [half]; ring
    rw [roundAway_of_nonneg (by omega), roundUp_of_half hd above, sub_add_cancel]
  · have neg : 2 * n < 0 := half ▸ mul_neg_of_pos_of_neg pos (by omega)
    exact roundAway_of_neg_half hd (by omega) half

/-! ### The increment (R93) -/

/-- The increment of a deviation and Gain whose quotient by 10 rounds to `n`. -/
theorem limitedIncrement_eq {u : Setup} {d n : Int} (raw : roundAway (-(d * u.gain)) 10 = n) :
    limitedIncrement u d = max (-(u.stepLimit : Int)) (min u.stepLimit n) := by
  rw [limitedIncrement, raw, clampInt_eq_max_min (by omega)]

theorem limitedIncrement_neg (u : Setup) (d : Int) : limitedIncrement u (-d) = -limitedIncrement u d := by
  unfold limitedIncrement
  rw [neg_mul, roundAway_neg (by decide), clampInt_neg]

/-- With no Gain nothing is asked for, and with StepLimit 0 nothing is let through. -/
theorem limitedIncrement_eq_zero {u : Setup} (off : u.gain = 0 ∨ u.stepLimit = 0) (d : Int) :
    limitedIncrement u d = 0 := by
  rcases off with noGain | noStep
  · rw [limitedIncrement_eq (n := 0) (by simp [noGain])]
    omega
  · rw [limitedIncrement_eq rfl, noStep]
    omega

/-- A clamped deviation and the largest Gain bound the product. -/
theorem deviation_mul_gain_natAbs_le {d : Int} {gain : Nat} (hd : d.natAbs ≤ 200) (hg : gain ≤ 400) :
    (-d * gain).natAbs ≤ 80000 := by
  rw [Int.natAbs_mul, Int.natAbs_neg, Int.natAbs_natCast]
  exact Nat.mul_le_mul hd hg

/-! ### Anti-windup (R94) -/

/-- A key held at HIGH takes no positive increment, one held at LOW no negative one, any other key takes it as it is. -/
theorem antiWindup_eq (i : Int) : antiWindup .high i = min i 0 ∧ antiWindup .low i = max i 0 ∧
    antiWindup .none i = i ∧ antiWindup .closed i = i := by
  refine ⟨?_, ?_, rfl, rfl⟩
  · show (if 0 < i then 0 else i) = min i 0
    split <;> omega
  · show (if i < 0 then 0 else i) = max i 0
    split <;> omega

/-- Settles O26: the clamp gives the bounds, the nearest quotient the value, and both are odd. -/
theorem densityIncrement : Obligations.DensityIncrement := by
  intro u d
  refine ⟨clampInt_natAbs_le _ _, fun n nearest => ⟨limitedIncrement_eq (roundAway_eq_of_nearest (by decide) ?_), ?_⟩,
    limitedIncrement_neg u d, fun off => limitedIncrement_eq_zero off d, antiWindup_eq⟩
  · rwa [mul_neg, ← mul_assoc]
  · intro hd hg
    have product := deviation_mul_gain_natAbs_le hd hg
    rw [neg_mul] at product ⊢
    rw [mul_assoc] at nearest
    omega

end Sys2Proof.Machine
end

section
/-! PROOFS. KEY_TRIM (R86 to R88): the keys that a run of values names, the trim of one key, the recompute of some
keys of a tower just replaced, and the rules of an accepted telegram. -/

namespace Sys2Proof.Machine

/-! ### The keys that a run names (R86) -/

/-- A run that starts at FirstKey and ends by KeyCount is in range. -/
theorem keyRangeOk_of_le {first n keyCount : Nat} (lo : 1 ≤ first) (hi : first + n ≤ keyCount + 1) :
    keyRangeOk first n keyCount = true := by
  have nonzero : first ≠ 0 := by omega
  have last : first + n - 1 ≤ keyCount := by omega
  simp [keyRangeOk, nonzero, last]

/-- The run's value i is for key FirstKey + i. -/
theorem runValue_eq_some {first : Nat} {values : List Int} {k : Key} {v : Int} :
    runValue first values k = some v ↔ first ≤ k.index ∧ values[k.index - first]? = some v := by
  unfold runValue
  split <;> simp [*]

/-- The keys with a value are those from FirstKey up to the run's end. -/
theorem runValue_isSome (first : Nat) (values : List Int) (k : Key) :
    (runValue first values k).isSome = (decide (first ≤ k.index) && decide (k.index < first + values.length)) := by
  rw [Bool.eq_iff_iff, Option.isSome_iff_exists]
  simp only [runValue_eq_some, exists_and_left, ← Option.isSome_iff_exists, isSome_getElem?, decide_eq_true_eq,
    Bool.and_eq_true]
  omega

/-- A value belongs to a key by its index alone. -/
theorem runValue_trimmed (first : Nat) (values : List Int) (k : Key) (relative : Bool) (v : Option Int) :
    runValue first values (k.trimmed relative v) = runValue first values k := by
  cases v <;> rfl

/-! ### The trim of one key (R87) -/

theorem clampTrim_eq_max_min (i : Int) : clampTrim i = max (-1000) (min 1000 i) := clampInt_eq_max_min (by decide) i

/-- The value of a run for a key is written as the clamped exact result. -/
theorem Key.trimmed_some (k : Key) (relative : Bool) (v : Int) :
    k.trimmed relative (some v) =
      { k with keyTrim := max (-1000) (min 1000 (if relative then k.keyTrim + v else v)) } := by
  rw [Key.trimmed, clampTrim_eq_max_min, trimResult]

/-- A key counts as clamped when its exact result is out of range. -/
theorem Key.trimClamped_some (k : Key) (relative : Bool) (v : Int) :
    k.trimClamped relative (some v) = (decide ((if relative then k.keyTrim + v else v) < -1000) ||
      decide (1000 < if relative then k.keyTrim + v else v)) := by
  rw [Key.trimClamped, clampTrim_eq_max_min, trimResult, Bool.eq_iff_iff, bne_iff_ne, Bool.or_eq_true,
    decide_eq_true_eq, decide_eq_true_eq]
  omega

/-! ### The recompute of some keys of a tower just replaced (R79) -/

/-- A tower replaced by one of its Generation, and its named keys then recomputed (R79). -/
theorem State.recomputeKeys_withTower (s : State) {t : TowerIx} {v : Tower}
    (h : v.generation = (s.tower t).generation) (named : Key → Bool) :
    (s.withTower t v).recomputeKeys t named =
      s.withTower t { v with keys := v.keys.map fun k => if named k then s.keyRecomputed t v k else k } := by
  have same : (s.withTower t v).keyRecomputed t v = s.keyRecomputed t v :=
    funext (s.keyRecomputed_withTower h v)
  unfold State.recomputeKeys
  simp only [State.recomputedKey_eq, State.withTower_tower_self, same]
  simp [State.withTower]

/-- A key's recompute reads the setup and the Active profile of its tower, not the tower's keys (R65, R75). -/
theorem State.keyRecomputed_keys (s : State) (t : TowerIx) (w : Tower) (keys : List Key) :
    s.keyRecomputed t { w with keys := keys } = s.keyRecomputed t w := rfl

/-! ### KEY_TRIM (R86 to R88) -/

/-- A key of a trimmed tower: one that the run has a value for is trimmed by it and recomputed, any other is left alone
(R87). -/
def State.keyTrimmed (s : State) (t : TowerIx) (relative : Bool) (first : Nat) (values : List Int) (k : Key) : Key :=
  match runValue first values k with
  | some v => s.keyRecomputed t (s.tower t) (k.trimmed relative (some v))
  | none => k

/-- All the trims written and then all the named keys recomputed, key by key (R87, R88). -/
theorem State.recomputeKeys_trimmed (s : State) (t : TowerIx) (relative : Bool) (first : Nat) (values : List Int) :
    (s.withTower t { s.tower t with
      keys := (s.tower t).keys.map fun k => k.trimmed relative (runValue first values k) }).recomputeKeys t
        (fun k => (runValue first values k).isSome) =
      s.withTower t { s.tower t with keys := (s.tower t).keys.map (s.keyTrimmed t relative first values) } := by
  rw [State.recomputeKeys_withTower s (by rfl), State.keyRecomputed_keys, List.map_map]
  congr 3
  funext k
  rw [Function.comp_apply, runValue_trimmed, State.keyTrimmed]
  cases runValue first values k <;> rfl

/-- The fields of a payload are read back (R86). -/
theorem keyTrim_fields (i : TowerIx) (relative : Bool) {first : Nat} {values : List Int} (small : first < 256)
    (range : ∀ v ∈ values, -32768 ≤ v ∧ v ≤ 32767) {p : List Byte}
    (payload : p = byteOf i.val :: flagByte relative :: byteOf first :: values.flatMap be16s) :
    byteAt p 0 = i.val ∧ byteAt p 1 = relative.toNat ∧ byteAt p 2 = first ∧ s16Run (p.drop 3) = values := by
  subst payload
  refine ⟨?_, ?_, ?_, s16Run_flatMap values range⟩
  · exact (byteOf_toNat _).trans (Nat.mod_eq_of_lt (by omega))
  · cases relative <;> rfl
  · exact (byteOf_toNat _).trans (Nat.mod_eq_of_lt small)

theorem Result.ofClamped_pos (n : Nat) : Result.ofClamped (0 < n) = if n = 0 then .ok else .clamped := by
  cases n <;> rfl

/-- The rules of a telegram that names an enabled tower and a run of its keys (R86 to R88). -/
theorem keyTrimRules_accepted {s : State} {p : List Byte} {i : TowerIx} {relative : Bool} {first : Nat}
    {values : List Int} (tower : byteAt p 0 = i.val) (mode : byteAt p 1 = relative.toNat)
    (firstKey : byteAt p 2 = first) (run : s16Run (p.drop 3) = values) (on : (s.tower i).setup.enabled = true)
    (inRange : keyRangeOk first values.length (s.tower i).setup.keyCount = true) {clamped : Nat}
    (count : clamped = (s.tower i).keys.countP fun k => k.trimClamped relative (runValue first values k)) :
    keyTrimRules s p =
      { state := (s.withTower i { s.tower i with
          keys := (s.tower i).keys.map (s.keyTrimmed i relative first values) }).derivePhase i,
        result := if clamped = 0 then .ok else .clamped,
        data := [byteOf i.val, byteOf first, byteOf values.length, byteOf clamped] } := by
  have isRelative : (relative.toNat == 1) = relative := by cases relative <;> rfl
  have isMode : ¬ 1 < relative.toNat := by cases relative <;> decide
  simp only [keyTrimRules, tower, towerOf_val, mode, firstKey, run, isRelative, on, isMode, inRange, ← count,
    State.recomputeKeys_trimmed, Result.ofClamped_pos, Bool.true_eq_false, if_false]

/-- Settles O24: the rules of an accepted telegram are the event that replaces one tower and derives its Phase; key by
key they are the statement's, by the value that the run has for the key. -/
theorem keyTrimAccepted : Obligations.KeyTrimAccepted := by
  intro s t i relative first values held w on lo hi count _ range payload result trimmed named u clamped
  have named_eq (k : Key) : named k = (runValue first values k).isSome := (runValue_isSome first values k).symm
  have keys_eq : s.keyTrimmed i relative first values =
      fun k => if named k then s.keyRecomputed i w (trimmed k) else k := by
    funext k
    cases value : runValue first values k with
    | none => simp [State.keyTrimmed, named_eq, value]
    | some v =>
      obtain ⟨from_first, at_v⟩ := runValue_eq_some.1 value
      simp [State.keyTrimmed, w, named_eq, value, trimmed, result, from_first, at_v, Key.trimmed_some]
  have clamped_eq : clamped = w.keys.countP fun k => k.trimClamped relative (runValue first values k) := by
    refine List.countP_congr fun k _ => ?_
    cases value : runValue first values k with
    | none => simp [named_eq, value, Key.trimClamped]
    | some v =>
      obtain ⟨-, at_v⟩ := runValue_eq_some.1 value
      simp [named_eq, value, result, at_v, Key.trimClamped_some]
  obtain ⟨tower, mode, firstKey, run⟩ := keyTrim_fields i relative (by omega) range payload
  have rules := keyTrimRules_accepted tower mode firstKey run on (keyRangeOk_of_le lo hi) clamped_eq
  rw [keys_eq] at rules
  exact management_derived held rules

end Sys2Proof.Machine
end

section
/-! PROOFS. FAULT_CLEAR (R112, R113): the group byte as a range check and as a scope of keys, and the rules of the
command in the order of their checks. -/

namespace Sys2Proof.Machine

/-! ### The group byte (R112, R113) -/

/-- A group does not exist when the groups before it hold all the keys of the tower. -/
theorem groupCount_le_iff {keyCount g : Nat} : groupCount keyCount ≤ g ↔ keyCount ≤ 12 * g := by
  show (keyCount + (12 - 1)) / 12 ≤ g ↔ keyCount ≤ 12 * g
  omega

theorem toNat_eq_allGroups_iff {group : Byte} : group.toNat = 0xFF ↔ group = 0xFF := BitVec.toNat_inj (y := 0xFF)

/-- The scope of a telegram's group byte. -/
theorem clearScope_toNat (group : Byte) (k : Key) :
    clearScope group.toNat k = (group == 0xFF || k.group == group.toNat) := by
  rw [clearScope, Bool.eq_iff_iff]
  simp only [Bool.or_eq_true, beq_iff_eq, toNat_eq_allGroups_iff]

/-! ### The rules in their order (R112, R113) -/

theorem faultClearRules_no_tower (s : State) {i : Byte} (group : Byte) (above : 11 < i.toNat) :
    faultClearRules s [i, group] = refuse s .badField [0x00] := by
  simp [faultClearRules, byteAt, towerOf_eq_none above]

theorem faultClearRules_off (s : State) {i : Byte} {j : TowerIx} (group : Byte) (hj : j.val = i.toNat)
    (off : (s.tower j).setup.enabled = false) : faultClearRules s [i, group] = refuse s .towerOff [i] := by
  simp [faultClearRules, byteAt, towerOf_eq_some hj, off, hj]

theorem faultClearRules_no_group (s : State) {i : Byte} {j : TowerIx} {group : Byte} (hj : j.val = i.toNat)
    (on : (s.tower j).setup.enabled = true) (named : group ≠ 0xFF)
    (beyond : (s.tower j).setup.keyCount ≤ 12 * group.toNat) :
    faultClearRules s [i, group] = refuse s .badField [0x01] := by
  have one_group : group.toNat ≠ 0xFF := mt toNat_eq_allGroups_iff.1 named
  simp [faultClearRules, byteAt, towerOf_eq_some hj, on, one_group, groupCount_le_iff, beyond]

/-- The rules of a telegram that names an enabled tower, and one of its groups or all of them: the FAULT keys of the
scope are cleared and counted (R113). -/
theorem faultClearRules_accepted (s : State) {i : Byte} {j : TowerIx} {group : Byte} (hj : j.val = i.toNat)
    (on : (s.tower j).setup.enabled = true)
    (inRange : group = 0xFF ∨ 12 * group.toNat < (s.tower j).setup.keyCount) {hit : Key → Bool}
    (scope : ∀ k, hit k = (clearScope group.toNat k && k.state == .fault)) :
    faultClearRules s [i, group] =
      { state := (s.withTower j { s.tower j with
          keys := (s.tower j).keys.map fun k => if hit k then k.cleared else k }).derivePhase j,
        result := .ok, data := [i, group, byteOf ((s.tower j).keys.countP hit)] } := by
  obtain rfl : hit = _ := funext scope
  have exists_group : ¬ (group ≠ 0xFF ∧ (s.tower j).setup.keyCount ≤ 12 * group.toNat) := by
    rintro ⟨named, beyond⟩
    exact inRange.elim named beyond.not_gt
  have tower : towerOf (byteAt [i, group] 0) = some j := towerOf_eq_some hj
  have group_field : byteAt [i, group] 1 = group.toNat := rfl
  simp only [faultClearRules, tower, group_field, on, hj, byteOf_toNat_self, groupCount_le_iff, ne_eq,
    toNat_eq_allGroups_iff, exists_group, Bool.true_eq_false, if_false]

/-- Settles O29: the three refusals and the accepted telegram are read off the rules; the latter is the event that
replaces one tower and derives its Phase. -/
theorem faultClearExecuted : Obligations.FaultClearExecuted := by
  intro s t i group held payload
  refine ⟨fun above => ?_, fun j hj => ⟨fun off => ?_, fun on named beyond => ?_, fun on inRange => ?_⟩⟩
  · exact management_refused held (payload ▸ faultClearRules_no_tower s group above)
  · exact management_refused held (payload ▸ faultClearRules_off s group hj off)
  · exact management_refused held (payload ▸ faultClearRules_no_group s hj on named beyond)
  · have rules := faultClearRules_accepted s hj on inRange fun k => by rw [clearScope_toNat]
    exact management_derived held (payload ▸ rules)

end Sys2Proof.Machine
end

section
/-! PROOFS. What the operations leave alone. The towers and the Attention Unit are where most operations work: with
both left out of account (`State.bare`), an operation on a tower or a source changes nothing, and the others act on
what is left as they act on the whole. -/

namespace Sys2Proof.Machine

/-- The part with its towers and its Attention Unit left out of account. -/
def State.bare (s : State) : State :=
  { s with towers := Vector.replicate 12 Tower.off, attention := Attention.fresh }

/-! ### Operations on towers and sources leave the rest alone -/

@[simp] theorem State.withTower_bare (s : State) (i : TowerIx) (w : Tower) : (s.withTower i w).bare = s.bare := rfl
@[simp] theorem State.withAttention_bare (s : State) (a : Attention) : (s.withAttention a).bare = s.bare := rfl
@[simp] theorem State.withSource_bare (s : State) (i : SourceIx) (r : SourceRecord) :
    (s.withSource i r).bare = s.bare := rfl
@[simp] theorem State.makeDue_bare (s : State) (i : SourceIx) : (s.makeDue i).bare = s.bare := rfl
@[simp] theorem State.recomputeKeys_bare (s : State) (i : TowerIx) (named : Key → Bool) :
    (s.recomputeKeys i named).bare = s.bare := rfl
@[simp] theorem State.tickTower_bare (s : State) (i : TowerIx) : (s.tickTower i).bare = s.bare := rfl
@[simp] theorem State.warmTower_bare (s : State) (i : TowerIx) : (s.warmTower i).bare = s.bare := rfl

@[simp] theorem State.raise_bare (s : State) (i : SourceIx) (d : Detail) : (s.raise i d).bare = s.bare := by
  rw [State.raise_eq_withAttention, State.withAttention_bare]

@[simp] theorem State.raiseAll_bare (s : State) (os : List (SourceIx × Detail)) : (s.raiseAll os).bare = s.bare := by
  rw [State.raiseAll_eq_withAttention, State.withAttention_bare]

@[simp] theorem State.derivePhase_bare (s : State) (i : TowerIx) : (s.derivePhase i).bare = s.bare := by
  simp [State.derivePhase_eq]

@[simp] theorem State.recomputeTower_bare (s : State) (i : TowerIx) : (s.recomputeTower i).bare = s.bare := by
  simp [State.recomputeTower]

@[simp] theorem State.applyStatus_bare (s : State) (i : TowerIx) (g : GroupIx) (r : Group) (isLocal : Bool)
    (entries : List StatusEntry) : (s.applyStatus i g r isLocal entries).bare = s.bare := by
  simp [State.applyStatus]

@[simp] theorem State.applyExpiry_bare (s : State) (i : TowerIx) (g : GroupIx) (judged : Tower) :
    (s.applyExpiry i g judged).bare = s.bare := by
  simp [State.applyExpiry]

@[simp] theorem State.applyReport_bare (s : State) (i : TowerIx) (at' : Key → Option DensityOutcome) :
    (s.applyReport i at').bare = s.bare := by
  simp [State.applyReport]

@[simp] theorem State.commitTower_bare (keepTrims : Bool) (s : State) (i : TowerIx) :
    (State.commitTower keepTrims s i).bare = s.bare := by
  simp [State.commitTower]

@[simp] theorem State.haltTower_bare (s : State) (i : TowerIx) : (s.haltTower i).bare = s.bare := by
  simp only [State.haltTower]
  split <;> simp

@[simp] theorem State.passthroughTower_bare (s : State) (i : TowerIx) : (s.passthroughTower i).bare = s.bare := by
  simp only [State.passthroughTower]
  split <;> simp

@[simp] theorem State.motionExpired_bare (s : State) (i : TowerIx) (g : GroupIx) :
    (s.motionExpired i g).bare = s.bare := by
  simp only [State.motionExpired]
  split <;> simp

@[simp] theorem State.breakLoad_bare (s : State) (i : TowerIx) : (s.breakLoad i).bare = s.bare := by
  simp only [State.breakLoad]
  split <;> simp

/-- A fold of operations on towers is one. -/
theorem State.foldl_bare {α : Type} {f : State → α → State} (keep : ∀ s a, (f s a).bare = s.bare) (l : List α) :
    ∀ s : State, (l.foldl f s).bare = s.bare := by
  induction l with
  | nil => exact fun s => rfl
  | cons a l ih => exact fun s => (ih (f s a)).trans (keep s a)

@[simp] theorem State.haltEffects_bare (s : State) : s.haltEffects.bare = s.bare :=
  State.foldl_bare State.haltTower_bare _ s

/-! ### The other operations act on what is left -/

@[simp] theorem State.withConsole_bare (s : State) (c : ConsolePort) : (s.withConsole c).bare = s.bare.withConsole c := rfl
@[simp] theorem State.withHandler_bare (s : State) (h : Handler) : (s.withHandler h).bare = s.bare.withHandler h := rfl
@[simp] theorem State.withDrive_bare (s : State) (d : Drive) : (s.withDrive d).bare = s.bare.withDrive d := rfl
@[simp] theorem State.withPoller_bare (s : State) (p : Poller) : (s.withPoller p).bare = s.bare.withPoller p := rfl
@[simp] theorem State.withPress_bare (s : State) (p : Press) : (s.withPress p).bare = s.bare.withPress p := rfl
@[simp] theorem State.withLine_bare (s : State) (l : Line) : (s.withLine l).bare = s.bare.withLine l := rfl
@[simp] theorem State.send_bare (s : State) (t : Telegram) : (s.send t).bare = s.bare.send t := rfl

/-- What is left of two states agrees in every block but the towers and the Attention Unit. -/
theorem State.bare_eq_iff {s t : State} : s.bare = t.bare ↔
    s.nreset = t.nreset ∧ s.console = t.console ∧ s.handler = t.handler ∧ s.curves = t.curves ∧
      s.sheetCount = t.sheetCount ∧ s.drive = t.drive ∧ s.poller = t.poller ∧ s.press = t.press ∧
      s.pending = t.pending := by
  simp [State.bare]

/-! ### Operations that leave the towers alone -/

@[simp] theorem State.raise_towers (s : State) (i : SourceIx) (d : Detail) : (s.raise i d).towers = s.towers := by
  rw [State.raise_eq_withAttention, State.withAttention_towers]

@[simp] theorem State.raiseAll_towers (s : State) (os : List (SourceIx × Detail)) :
    (s.raiseAll os).towers = s.towers := by
  rw [State.raiseAll_eq_withAttention, State.withAttention_towers]

@[simp] theorem State.raise_tower (s : State) (i : SourceIx) (d : Detail) (j : TowerIx) :
    (s.raise i d).tower j = s.tower j :=
  congrArg (·[j]) (s.raise_towers i d)

@[simp] theorem State.raiseAll_tower (s : State) (os : List (SourceIx × Detail)) (j : TowerIx) :
    (s.raiseAll os).tower j = s.tower j :=
  congrArg (·[j]) (s.raiseAll_towers os)

@[simp] theorem State.judgeNotices_towers (s : State) : s.judgeNotices.towers = s.towers := by
  obtain ⟨notices, e, -⟩ := s.judgeNotices_cases
  rw [e]

@[simp] theorem State.judgeNotices_tower (s : State) (j : TowerIx) : s.judgeNotices.tower j = s.tower j :=
  congrArg (·[j]) s.judgeNotices_towers

@[simp] theorem State.judgeNotices_sources (s : State) :
    s.judgeNotices.attention.sources = s.attention.sources := by
  obtain ⟨notices, e, -⟩ := s.judgeNotices_cases
  rw [e]

@[simp] theorem State.judgeNotices_source (s : State) (i : SourceIx) : s.judgeNotices.source i = s.source i :=
  congrArg (·[i]) s.judgeNotices_sources

/-- The end of an event touches the tail of the transmit queue alone. -/
theorem State.judgeNotices_bare (s : State) : ∃ notices : List Telegram,
    s.judgeNotices.bare = s.bare.withConsole { s.console with tx := s.console.tx ++ notices } := by
  obtain ⟨notices, e, -⟩ := s.judgeNotices_cases
  exact ⟨notices, by rw [e]; rfl⟩

/-- What holds of a state and is kept by each notice that finds its 4 places holds at the end of the event (R183). -/
theorem State.judgeNotices_keeps {P : State → Prop} {s : State} (h : P s)
    (notice : ∀ s t, P s → 4 ≤ s.console.freePlaces → P (s.send t))
    (clear : ∀ s : State, P s → P (s.withAttention { s.attention with due := [] })) : P s.judgeNotices := by
  refine clear _ (List.foldlRecOn s.attention.due State.judgeNotice h fun u hu i _ => ?_)
  rcases u.judgeNotice_tx i with same | ⟨o, -, -, -, places, sent⟩
  · rwa [same]
  · rw [sent]
    exact notice u _ hu places

/-- Reading a tower after its Phase has been derived (R30). -/
theorem State.derivePhase_tower (s : State) (i j : TowerIx) :
    (s.derivePhase i).tower j =
      if j = i then { s.tower i with phase := (s.tower i).derivedPhase } else s.tower j := by
  rw [State.derivePhase_eq, State.raiseAll_tower, State.withTower_tower]

/-- Reading a tower after one has been replaced and its Phase derived. -/
theorem State.withTower_derivePhase_tower (s : State) (i j : TowerIx) (v : Tower) :
    ((s.withTower i v).derivePhase i).tower j =
      if j = i then { v with phase := v.derivedPhase } else s.tower j := by
  rw [State.derivePhase_tower, State.withTower_tower_self, State.withTower_tower]
  split <;> rfl

/-! ### Rounds touch the Poller alone -/

theorem State.startRound_eq (s : State) : s.startRound = s.withPoller s.startRound.poller := rfl

theorem State.endRound_eq (s : State) : s.endRound = s.withPoller s.endRound.poller := by
  unfold State.endRound
  split <;> rfl

theorem State.passStale_eq (s : State) : s.passStale = s.withPoller s.passStale.poller := by
  simp only [State.passStale]
  split
  · rfl
  · exact s.endRound_eq

theorem State.pollEnded_eq (s : State) : s.pollEnded = s.withPoller s.pollEnded.poller := by
  unfold State.pollEnded
  split
  · rw [State.passStale_eq]
    rfl
  · rfl

/-- A trigger touches the Poller, or raises SWEEP_OVERRUN (R151, R153). -/
theorem State.trigger_cases (s : State) :
    (∃ p, s.trigger = s.withPoller p) ∨ s.trigger = s.raise srcSweepOverrun .none := by
  unfold State.trigger
  split
  · exact .inl ⟨s.poller, rfl⟩
  · split
    · split
      · exact .inr rfl
      · exact .inl ⟨_, rfl⟩
    · exact .inl ⟨_, s.startRound_eq⟩

/-- What is left of the part after a trigger is what was left before it, but for the Poller. -/
theorem State.trigger_bare (s : State) : s.trigger.bare = s.bare.withPoller s.trigger.poller := by
  rcases s.trigger_cases with ⟨p, e⟩ | e
  · rw [e]; rfl
  · have poller := (State.bare_eq_iff.1 (s.raise_bare srcSweepOverrun .none)).2.2.2.2.2.2.1
    rw [e, State.raise_bare, poller]
    rfl

@[simp] theorem State.trigger_towers (s : State) : s.trigger.towers = s.towers := by
  rcases s.trigger_cases with ⟨p, e⟩ | e <;> rw [e]
  · rfl
  · exact s.raise_towers _ _

@[simp] theorem State.startRound_bare (s : State) : s.startRound.bare = s.bare.withPoller s.startRound.poller := rfl
@[simp] theorem State.startRound_towers (s : State) : s.startRound.towers = s.towers := rfl
@[simp] theorem State.startRound_attention (s : State) : s.startRound.attention = s.attention := rfl

@[simp] theorem State.passStale_bare (s : State) : s.passStale.bare = s.bare.withPoller s.passStale.poller :=
  congrArg State.bare s.passStale_eq
@[simp] theorem State.passStale_towers (s : State) : s.passStale.towers = s.towers :=
  (congrArg State.towers s.passStale_eq).trans rfl
@[simp] theorem State.passStale_attention (s : State) : s.passStale.attention = s.attention :=
  (congrArg State.attention s.passStale_eq).trans rfl

@[simp] theorem State.pollEnded_bare (s : State) : s.pollEnded.bare = s.bare.withPoller s.pollEnded.poller :=
  congrArg State.bare s.pollEnded_eq
@[simp] theorem State.pollEnded_towers (s : State) : s.pollEnded.towers = s.towers :=
  (congrArg State.towers s.pollEnded_eq).trans rfl
@[simp] theorem State.pollEnded_attention (s : State) : s.pollEnded.attention = s.attention :=
  (congrArg State.attention s.pollEnded_eq).trans rfl

end Sys2Proof.Machine
end

section
/-! PROOFS. What a step can do, said once: the management commands with their rules, the queries with their snapshots,
and the change that each command makes before the notices of its event are judged (`Effect`). -/

namespace Sys2Proof.Machine

/-! ### Management commands and queries -/

/-- The management commands, each with the kind it executes and the kind's rules (Table 1-2). -/
inductive Manages : Instr → Kind → (State → List Byte → Answer) → Prop
  | towerSetup : Manages .towerSetup .towerSetup towerSetupRules
  | curveLoad : Manages .curveLoad .curveLoad curveLoadRules
  | towerTrim : Manages .towerTrim .towerTrim towerTrimRules
  | profileBegin : Manages .profileBegin .profileBegin profileBeginRules
  | profileZones : Manages .profileZones .profileZones profileZonesRules
  | profileEnd : Manages .profileEnd .profileEnd profileEndRules
  | jobCommit : Manages .jobCommit .jobCommit jobCommitRules
  | keyTrim : Manages .keyTrim .keyTrim keyTrimRules
  | densityReport : Manages .densityReport .densityReport densityReportRules
  | faultClear : Manages .faultClear .faultClear faultClearRules
  | sweepConfig : Manages .sweepConfig .sweepConfig sweepConfigRules
  | pressState : Manages .pressState .pressState pressStateRules
  | mode : Manages .mode .mode modeRules
  | attentionConfig : Manages .attentionConfig .attentionConfig attentionConfigRules
  | attentionPoll : Manages .attentionPoll .attentionPoll attentionPollRules
  | restart : Manages .restart .restart restartRules

/-- The query commands, each with its target and the target's snapshot (Table 10-2). -/
inductive Asks : Instr → Target → (State → List Byte → Snapshot) → Prop
  | device : Asks .queryDevice .device deviceSnapshot
  | tower : Asks .queryTower .tower towerSnapshot
  | keys : Asks .queryKeys .keys keysSnapshot
  | groups : Asks .queryGroups .groups groupsSnapshot
  | profile : Asks .queryProfile .profile profileSnapshot
  | curve : Asks .queryCurve .curve curveSnapshot
  | counters : Asks .queryCounters .counters countersSnapshot

theorem Manages.exec_eq {c : Instr} {k : Kind} {rules : State → List Byte → Answer} (m : Manages c k rules) (s : State) :
    exec c s = management k rules s := by
  cases m <;> rfl

theorem Asks.exec_eq {c : Instr} {x : Target} {snapshot : State → List Byte → Snapshot} (a : Asks c x snapshot)
    (s : State) : exec c s = query x snapshot s := by
  cases a <;> rfl

/-- The command that executes a telegram is that of its kind, or of its target (R10, R191). -/
theorem executes_cases {c : Instr} {t : Telegram} (h : executes c t = true) :
    (∃ k rules, Manages c k rules ∧ t.kind = k.code) ∨
      ∃ x snapshot, Asks c x snapshot ∧ t.kind = 0x58 ∧ t.payload.head? = some x.code := by
  cases c
  case towerSetup => exact .inl ⟨_, _, .towerSetup, eq_of_beq h⟩
  case curveLoad => exact .inl ⟨_, _, .curveLoad, eq_of_beq h⟩
  case towerTrim => exact .inl ⟨_, _, .towerTrim, eq_of_beq h⟩
  case profileBegin => exact .inl ⟨_, _, .profileBegin, eq_of_beq h⟩
  case profileZones => exact .inl ⟨_, _, .profileZones, eq_of_beq h⟩
  case profileEnd => exact .inl ⟨_, _, .profileEnd, eq_of_beq h⟩
  case jobCommit => exact .inl ⟨_, _, .jobCommit, eq_of_beq h⟩
  case keyTrim => exact .inl ⟨_, _, .keyTrim, eq_of_beq h⟩
  case densityReport => exact .inl ⟨_, _, .densityReport, eq_of_beq h⟩
  case faultClear => exact .inl ⟨_, _, .faultClear, eq_of_beq h⟩
  case sweepConfig => exact .inl ⟨_, _, .sweepConfig, eq_of_beq h⟩
  case pressState => exact .inl ⟨_, _, .pressState, eq_of_beq h⟩
  case mode => exact .inl ⟨_, _, .mode, eq_of_beq h⟩
  case attentionConfig => exact .inl ⟨_, _, .attentionConfig, eq_of_beq h⟩
  case attentionPoll => exact .inl ⟨_, _, .attentionPoll, eq_of_beq h⟩
  case restart => exact .inl ⟨_, _, .restart, eq_of_beq h⟩
  case queryDevice => exact .inr ⟨_, _, .device, by simpa [executes, Target.code] using h⟩
  case queryTower => exact .inr ⟨_, _, .tower, by simpa [executes, Target.code] using h⟩
  case queryKeys => exact .inr ⟨_, _, .keys, by simpa [executes, Target.code] using h⟩
  case queryGroups => exact .inr ⟨_, _, .groups, by simpa [executes, Target.code] using h⟩
  case queryProfile => exact .inr ⟨_, _, .profile, by simpa [executes, Target.code] using h⟩
  case queryCurve => exact .inr ⟨_, _, .curve, by simpa [executes, Target.code] using h⟩
  case queryCounters => exact .inr ⟨_, _, .counters, by simpa [executes, Target.code] using h⟩
  all_goals cases h

/-! ### What a command can change -/

/-- The Handler with the oldest inbound telegram in hand and a place reserved for its answer (R8). -/
def State.taken (s : State) (t : Telegram) (rest : List Telegram) : State :=
  (s.withConsole { s.console with inbound := rest, reservedHandler := true }).withHandler { s.handler with hand := some t }

/-- A MOVE sent to a group (R125, R132, R133, R135). -/
def State.moveSent (s : State) (i : TowerIx) (g : GroupIx) (r : Group) : State :=
  (s.withDrive { s.drive with turn := .sweep, rotation := rotate s.drive.rotation i }).startSending
    (.transaction { dest := nodeAddress i g, work := .move r.generation ((s.tower i).moveBatch g),
                    window := (s.tower i).setup.replyWindow })
    (downward (nodeAddress i g) Config.kindMove (movePayload ((s.tower i).moveBatch g)))

/-- A STATUS_REQUEST sent to the group of a poll entry (R125, R132, R138, R156). -/
def State.requestSent (s : State) (e : PollEntry) (r : Group) : State :=
  ((s.withDrive { s.drive with turn := .move }).withPoller { s.poller with inHand := true }).startSending
    (.transaction { dest := e.node, work := .status r.generation (((s.tower e.tower).groupKeys e.group).map Key.index),
                    window := (s.tower e.tower).setup.replyWindow })
    (downward e.node Config.kindStatusRequest [])

/-- The change that a command makes in its event, before the notices are judged: `Effect c s u` leads from `s` to `u`.
A constructor's hypotheses are the conditions under which that step takes place. -/
inductive Effect : Instr → State → State → Prop
  | idle {c s} : Effect c s s
  | managed {c s k rules t} (m : Manages c k rules) (hand : s.handler.hand = some t) (kind : t.kind = k.code)
      (len : k.lengthOk t.payload.length = true) :
      Effect c s ((rules s t.payload).state.answered 0x80 t (rules s t.payload).result (rules s t.payload).data)
  | answered {c s t kind r data} (hand : s.handler.hand = some t) : Effect c s (s.answered kind t r data)
  | nresetAssert {s} : Effect .nresetAssert s s.resetAsserted
  | consoleArrival {s chars t} (valid : receive chars = .valid t) :
      Effect (.consoleTelegramReceived chars) s (s.consoleArrival t)
  | consoleInvalid {s chars} : Effect (.consoleTelegramInvalid chars) s s.consoleInvalid
  | silenceExpired {s} (link : s.console.link = .up) : Effect .silenceTimerExpiry s
      (((s.withConsole { s.console with link := .lost, lineok := false, silence := none }).withDrive
        { s.drive with forward := [] }).raise srcLinkLost .none)
  | transmitted {s t rest} (queue : s.console.tx = t :: rest) : Effect .consoleTransmitDone s
      ((s.withConsole { s.console with tx := rest }).withHandler
        { s.handler with restart := s.handler.restart.transmitted })
  | handlerTake {s t rest} (inbound : s.console.inbound = t :: rest) (ready : s.handlerReady = true)
      (place : 1 ≤ s.console.freePlaces) : Effect .handlerTake s ((s.taken t rest).route t)
  | idleExpiry {s i} : Effect (.profileIdleExpiry i) s (s.breakLoad i)
  | warmRestart {s h} (due : s.handler.restart = .due .warm) : Effect (.warmRestart h) s (s.warmRestart h)
  | coldRestart {s h} (due : s.handler.restart = .due .cold) : Effect (.coldRestart h) s (s.powerOn h)
  | haltGrant {s} (free : s.drive.line = .free) (chosen : s.chosen = some .halt) :
      Effect .haltGrant s (s.startSending .halt haltTelegram)
  | forwardGrant {s t rest} (free : s.drive.line = .free) (chosen : s.chosen = some .forward)
      (queue : s.drive.forward = t :: rest) :
      Effect .forwardGrant s ((s.withDrive { s.drive with forward := rest }).sendForward t)
  | sweepGrant {s e r} (free : s.drive.line = .free) (chosen : s.chosen = some .sweep)
      (current : s.poller.current = some e) (record : (s.tower e.tower).group? e.group = some r) :
      Effect .sweepGrant s (s.requestSent e r)
  | moveGrant {s i g r} (free : s.drive.line = .free) (chosen : s.chosen = some .move)
      (first : s.drive.rotation.find? s.towerEligible = some i) (lowest : (s.tower i).lowestEligible = some g)
      (record : (s.tower i).group? g = some r) : Effect .moveGrant s (s.moveSent i g r)
  | windowOpens {s r t} (line : s.drive.line = .sending (.transaction r) t false) :
      Effect .driveSendComplete s (s.withLine (.waiting r r.window))
  | abandonedSent {s r t} (line : s.drive.line = .sending (.transaction r) t true) :
      Effect .driveSendComplete s (s.withLine .free)
  | broadcastSent {s t warm} (line : s.drive.line = .sending .broadcast t warm) :
      Effect .driveSendComplete s (s.withLine (.gap Config.gapMs))
  | haltSent {s t} (line : s.drive.line = .sending .halt t false) : Effect .haltSent s
      ((s.withLine (.gap Config.gapMs)).withDrive
        { (s.withLine (.gap Config.gapMs)).drive with haltPending := false }).haltEffects
  | warmHaltSent {s t} (line : s.drive.line = .sending .halt t true) :
      Effect .haltSent s (s.withLine (.gap Config.gapMs))
  | gapEnd {s n} (line : s.drive.line = .gap n) : Effect .gapEnd s (s.withLine .free)
  | moveAccepted {s chars i g r dest generation batch window n}
      (line : s.drive.line = .waiting ⟨dest, .move generation batch, window⟩ n)
      (guard : s.guarded dest generation = some (i, g, r)) : Effect (.moveAcceptReceived chars) s
        (((s.withTower i ((s.tower i).applyAccept g batch)).derivePhase i).withLine .free)
  | moveRejected {s chars i g r dest generation batch window n reason}
      (line : s.drive.line = .waiting ⟨dest, .move generation batch, window⟩ n)
      (guard : s.guarded dest generation = some (i, g, r)) : Effect (.moveRejectReceived chars) s
        (((s.withTower i ((s.tower i).applyReject g batch reason s.sheetCount)).derivePhase i).withLine .free)
  | moveMissed {s i g r dest generation batch window n}
      (line : s.drive.line = .waiting ⟨dest, .move generation batch, window⟩ n)
      (guard : s.guarded dest generation = some (i, g, r)) : Effect .moveWindowExpiry s
        ((s.applyExpiry i g ((s.tower i).judgeBatch g batch s.sheetCount)).withLine .free)
  | moveStray {c s r n} (line : s.drive.line = .waiting r n) : Effect c s (s.withLine .free)
  | statusTaken {s chars i g r dest generation keys window n isLocal entries}
      (line : s.drive.line = .waiting ⟨dest, .status generation keys, window⟩ n)
      (guard : s.guarded dest generation = some (i, g, r)) : Effect (.statusReceived chars) s
        ((s.applyStatus i g r isLocal entries).pollEnded.withLine .free)
  | statusMissed {s i g r dest generation keys window n}
      (line : s.drive.line = .waiting ⟨dest, .status generation keys, window⟩ n)
      (guard : s.guarded dest generation = some (i, g, r)) : Effect .statusWindowExpiry s
        ((s.applyExpiry i g (s.tower i)).pollEnded.withLine .free)
  | statusStray {c s r n} (line : s.drive.line = .waiting r n) : Effect c s (s.pollEnded.withLine .free)
  | forwardEnded {c s dest kind window n t} (line : s.drive.line = .waiting ⟨dest, .forward kind, window⟩ n) :
      Effect c s (s.endForward t)
  | motionExpired {s i g} : Effect (.motionTimerExpiry i g) s (s.motionExpired i g)
  | sweepExpired {s n} (running : s.poller.sweepTimer = some n) : Effect .sweepTimerExpiry s s.sweepExpired
  | sheetPulse {s} : Effect .sheetPulse s (s.withSheets (s.sheetCount + 1)).pollerSheet
  | holdAsserted {s} (hold : s.press.hold = .released) : Effect .holdAssert s
      ((((s.withPress { s.press with hold := .asserted }).withDrive
        { s.drive with haltPending := true }).purgeMoves).raise srcHoldChange (.level .asserted))
  | holdReleased {s} (hold : s.press.hold = .asserted) : Effect .holdRelease s
      ((s.withPress { s.press with hold := .released }).raise srcHoldChange (.level .released))

/-! ### Every command is one of these -/

theorem Manages.effect {c : Instr} {k : Kind} {rules : State → List Byte → Answer} (m : Manages c k rules)
    (s : State) : Effect c s (executeHeld k rules s) := by
  unfold executeHeld
  split
  · rename_i t hand
    split
    · rename_i kind
      split
      · rename_i len
        rw [State.answerHeld_eq_answered]
        exact .managed m hand kind len
      · rw [State.answerHeld_eq_answered]
        exact .answered hand
    · exact .idle
  · exact .idle

theorem Asks.effect {c : Instr} {x : Target} {snapshot : State → List Byte → Snapshot} (s : State) :
    Effect c s (executeQuery x snapshot s) := by
  unfold executeQuery
  split
  · rename_i t hand
    split
    · split
      · split <;> (rw [State.answerHeld_eq_answered]; exact .answered hand)
      · rw [State.answerHeld_eq_answered]
        exact .answered hand
    · exact .idle
  · exact .idle

theorem State.handlerTake_effect (s : State) : Effect .handlerTake s s.handlerTake := by
  unfold State.handlerTake
  split
  · exact .idle
  · rename_i t rest inbound
    split
    · rename_i can
      obtain ⟨ready, place⟩ := Bool.and_eq_true_iff.1 can
      exact .handlerTake inbound ready (of_decide_eq_true place)
    · exact .idle

/-- A grant takes place as its requester's effect, or does not take place (R124, R131). -/
theorem State.grant_effect {c : Instr} {s : State} {r : Requester} {granted : State → State}
    (takes : s.drive.line = .free → s.chosen = some r → Effect c s (granted s)) : Effect c s (s.grant r granted) := by
  unfold State.grant
  split
  · rename_i h
    exact takes h.1 h.2
  · exact .idle

theorem State.grantForward_effect {s : State} (free : s.drive.line = .free) (chosen : s.chosen = some .forward) :
    Effect .forwardGrant s s.grantForward := by
  unfold State.grantForward
  split
  · exact .idle
  · rename_i t rest queue
    exact .forwardGrant free chosen queue

theorem State.grantSweep_effect {s : State} (free : s.drive.line = .free) (chosen : s.chosen = some .sweep) :
    Effect .sweepGrant s s.grantSweep := by
  simp only [State.grantSweep]
  split
  · exact .idle
  · rename_i e current
    split
    · exact .idle
    · rename_i r record
      exact .sweepGrant free chosen current record

theorem State.grantMove_effect {s : State} (free : s.drive.line = .free) (chosen : s.chosen = some .move) :
    Effect .moveGrant s s.grantMove := by
  simp only [State.grantMove]
  split
  · exact .idle
  · rename_i i first
    split
    · exact .idle
    · rename_i g lowest
      split
      · exact .idle
      · rename_i r record
        exact .moveGrant free chosen first lowest record

theorem State.sendComplete_effect (s : State) : Effect .driveSendComplete s s.sendComplete := by
  unfold State.sendComplete
  split
  · rename_i r t warm line
    cases warm
    · exact .windowOpens line
    · exact .abandonedSent line
  · rename_i t warm line
    exact .broadcastSent line
  · exact .idle

theorem State.haltComplete_effect (s : State) : Effect .haltSent s s.haltComplete := by
  unfold State.haltComplete
  split
  · rename_i t warm line
    cases warm
    · exact .haltSent line
    · exact .warmHaltSent line
  · exact .idle

theorem State.gapOver_effect (s : State) : Effect .gapEnd s s.gapOver := by
  unfold State.gapOver
  split
  · rename_i n line
    exact .gapEnd line
  · exact .idle

/-- A transaction whose window is open is the one that the line waits for. -/
theorem Line.window?_eq_some {l : Line} {r : Transaction} : l.window? = some r ↔ ∃ n, l = .waiting r n := by
  cases l <;> simp [Line.window?]

/-- Characters are taken as a forwarded telegram in the window of a forward alone (R7, R141). -/
theorem driveVerdict_forwarded {l : Line} {chars : List RxChar} {t : Telegram}
    (h : driveVerdict l chars = .forwarded t) : ∃ dest kind window n, l = .waiting ⟨dest, .forward kind, window⟩ n := by
  unfold driveVerdict telegramVerdict moveVerdict statusVerdict at h
  split at h
  · rename_i r n u _
    obtain ⟨dest, work, window⟩ := r
    split at h
    · split at h
      · rename_i kind work_eq
        cases work_eq
        exact ⟨_, _, _, _, rfl⟩
      · repeat' split at h
        all_goals cases h
      · repeat' split at h
        all_goals cases h
    · cases h
  · cases h

theorem moveAcceptReceived_effect (chars : List RxChar) (s : State) :
    Effect (.moveAcceptReceived chars) s (match s.drive.line.window?, driveVerdict s.drive.line chars with
      | some r, .moveAccept =>
        match r.work with
        | .move generation batch => s.takeAccept r generation batch
        | _ => s
      | _, _ => s) := by
  split
  · rename_i r open' _
    obtain ⟨n, line⟩ := Line.window?_eq_some.1 open'
    obtain ⟨dest, work, window⟩ := r
    split
    · rename_i generation batch work_eq
      cases work_eq
      unfold State.takeAccept
      split
      · rename_i guard
        exact .moveAccepted line guard
      · exact .moveStray line
    · exact .idle
  · exact .idle

theorem moveRejectReceived_effect (chars : List RxChar) (s : State) :
    Effect (.moveRejectReceived chars) s (match s.drive.line.window?, driveVerdict s.drive.line chars with
      | some r, .moveReject reason =>
        match r.work with
        | .move generation batch => s.takeReject r generation batch reason
        | _ => s
      | _, _ => s) := by
  split
  · rename_i r reason open' _
    obtain ⟨n, line⟩ := Line.window?_eq_some.1 open'
    obtain ⟨dest, work, window⟩ := r
    split
    · rename_i generation batch work_eq
      cases work_eq
      unfold State.takeReject
      split
      · rename_i guard
        exact .moveRejected line guard
      · exact .moveStray line
    · exact .idle
  · exact .idle

theorem statusReceived_effect (chars : List RxChar) (s : State) :
    Effect (.statusReceived chars) s (match s.drive.line.window?, driveVerdict s.drive.line chars with
      | some r, .status isLocal entries =>
        match r.work with
        | .status generation _ => s.takeStatus r generation isLocal entries
        | _ => s
      | _, _ => s) := by
  split
  · rename_i r isLocal entries open' _
    obtain ⟨n, line⟩ := Line.window?_eq_some.1 open'
    obtain ⟨dest, work, window⟩ := r
    split
    · rename_i generation keys work_eq
      cases work_eq
      unfold State.takeStatus
      split
      · rename_i guard
        exact .statusTaken line guard
      · exact .statusStray line
    · exact .idle
  · exact .idle

theorem State.moveExpired_effect (s : State) : Effect .moveWindowExpiry s s.moveExpired := by
  unfold State.moveExpired
  split
  · rename_i line
    split
    · rename_i guard
      exact .moveMissed line guard
    · exact .moveStray line
  · exact .idle

theorem State.statusExpired_effect (s : State) : Effect .statusWindowExpiry s s.statusExpired := by
  unfold State.statusExpired
  split
  · rename_i line
    split
    · rename_i guard
      exact .statusMissed line guard
    · exact .statusStray line
  · exact .idle

theorem State.forwardExpired_effect (s : State) : Effect .forwardTimeout s s.forwardExpired := by
  unfold State.forwardExpired
  split
  · rename_i line
    exact .forwardEnded line
  · exact .idle

/-- A power-on by its own command or by the release of nRESET, which are no events (R21). -/
def powers (c : Instr) (h : HoldLevel) : Prop := c = .powerOn h ∨ c = .nresetRelease h

/-- Every command but the two power commands is an event of one of the effects. -/
theorem exec_event (c : Instr) (s : State) :
    (∃ h, powers c h) ∨
      ∃ u, Effect c s u ∧ exec c s = if s.nreset then .next s else .next u.judgeNotices := by
  cases c
  case powerOn h => exact .inl ⟨h, .inl rfl⟩
  case nresetRelease h => exact .inl ⟨h, .inr rfl⟩
  all_goals refine .inr ⟨_, ?_, rfl⟩
  case towerSetup => exact Manages.towerSetup.effect s
  case curveLoad => exact Manages.curveLoad.effect s
  case towerTrim => exact Manages.towerTrim.effect s
  case profileBegin => exact Manages.profileBegin.effect s
  case profileZones => exact Manages.profileZones.effect s
  case profileEnd => exact Manages.profileEnd.effect s
  case jobCommit => exact Manages.jobCommit.effect s
  case keyTrim => exact Manages.keyTrim.effect s
  case densityReport => exact Manages.densityReport.effect s
  case faultClear => exact Manages.faultClear.effect s
  case sweepConfig => exact Manages.sweepConfig.effect s
  case pressState => exact Manages.pressState.effect s
  case mode => exact Manages.mode.effect s
  case attentionConfig => exact Manages.attentionConfig.effect s
  case attentionPoll => exact Manages.attentionPoll.effect s
  case restart => exact Manages.restart.effect s
  case queryDevice => exact Asks.effect s
  case queryTower => exact Asks.effect s
  case queryKeys => exact Asks.effect s
  case queryGroups => exact Asks.effect s
  case queryProfile => exact Asks.effect s
  case queryCurve => exact Asks.effect s
  case queryCounters => exact Asks.effect s
  case nresetAssert => exact .nresetAssert
  case consoleTelegramReceived chars =>
    split
    · exact .consoleArrival ‹_›
    · exact .idle
  case consoleTelegramInvalid chars =>
    split
    · exact .consoleInvalid
    · exact .idle
  case silenceTimerExpiry =>
    unfold State.silenceExpired
    split
    · exact .idle
    · exact .silenceExpired ‹_›
  case consoleTransmitDone =>
    unfold State.transmitted
    split
    · exact .idle
    · exact .transmitted ‹_›
  case handlerTake => exact s.handlerTake_effect
  case profileIdleExpiry i => exact .idleExpiry
  case warmRestart h =>
    beta_reduce
    split
    · exact .warmRestart ‹_›
    · exact .idle
  case coldRestart h =>
    beta_reduce
    split
    · exact .coldRestart ‹_›
    · exact .idle
  case haltGrant => exact State.grant_effect .haltGrant
  case forwardGrant => exact State.grant_effect State.grantForward_effect
  case sweepGrant => exact State.grant_effect State.grantSweep_effect
  case moveGrant => exact State.grant_effect State.grantMove_effect
  case driveSendComplete => exact s.sendComplete_effect
  case haltSent => exact s.haltComplete_effect
  case gapEnd => exact s.gapOver_effect
  case moveAcceptReceived chars => exact moveAcceptReceived_effect chars s
  case moveRejectReceived chars => exact moveRejectReceived_effect chars s
  case statusReceived chars => exact statusReceived_effect chars s
  case forwardedReplyReceived chars =>
    beta_reduce
    split
    · rename_i verdict
      obtain ⟨dest, kind, window, n, line⟩ := driveVerdict_forwarded verdict
      exact .forwardEnded line
    · exact .idle
  case driveTelegramDiscarded chars => exact .idle
  case moveWindowExpiry => exact s.moveExpired_effect
  case statusWindowExpiry => exact s.statusExpired_effect
  case forwardTimeout => exact s.forwardExpired_effect
  case motionTimerExpiry i g => exact .motionExpired
  case sweepTimerExpiry =>
    cases running : s.poller.sweepTimer with
    | none => simpa only [State.sweepExpired, running] using Effect.idle
    | some n => exact .sweepExpired running
  case sheetPulse => exact .sheetPulse
  case holdAssert =>
    unfold State.holdAsserted
    split
    · exact .idle
    · exact .holdAsserted ‹_›
  case holdRelease =>
    unfold State.holdReleased
    split
    · exact .idle
    · exact .holdReleased ‹_›

/-- What a command does: the power-on state, nothing while nRESET is asserted, or one effect and the judgement of the
notices it brings (R21, R183). -/
theorem exec_cases {c : Instr} {s n : State} (h : exec c s = .next n) :
    (∃ h, powers c h ∧ (n = s.powerOn h ∨ n = s)) ∨ n = s ∨
      (s.nreset = false ∧ ∃ u, Effect c s u ∧ n = u.judgeNotices) := by
  rcases exec_event c s with ⟨level, rfl | rfl⟩ | ⟨u, effect, e⟩
  · cases h
    exact .inl ⟨level, .inl rfl, .inl rfl⟩
  · cases released : s.nreset with
    | true =>
      simp only [exec, execNresetRelease, released, if_true] at h
      cases h
      exact .inl ⟨level, .inr rfl, .inl rfl⟩
    | false =>
      simp [exec, execNresetRelease, released] at h
      exact .inl ⟨level, .inr rfl, .inr h.symm⟩
  · rw [e] at h
    cases released : s.nreset with
    | true =>
      rw [released, if_pos rfl] at h
      cases h
      exact .inr (.inl rfl)
    | false =>
      rw [released, if_neg Bool.false_ne_true] at h
      cases h
      exact .inr (.inr ⟨rfl, u, effect, rfl⟩)

/-- What a step does: one millisecond when no command waits, and the front command otherwise. -/
theorem step_cases {s n : State} (h : step s = .next n) :
    (s.pending = [] ∧ n = s.tick) ∨
      ∃ c rest, s.pending = c :: rest ∧ exec c (s.withPending rest) = .next n := by
  unfold step at h
  split at h
  · rename_i c rest queue
    exact .inr ⟨c, rest, queue, h⟩
  · cases h
    exact .inl ⟨‹_›, rfl⟩

/-- A predicate that does not look at the queue of commands is kept by every step when the power-on state has it and a
millisecond, each effect and the judgement of the notices keep it. -/
theorem keeps_of_effects {P : State → Prop} (queue : ∀ (s : State) rest, P s → P (s.withPending rest))
    (power : ∀ (s : State) h, P (s.powerOn h)) (tick : ∀ s : State, P s → P s.tick)
    (notice : ∀ (s : State) t, P s → 4 ≤ s.console.freePlaces → P (s.send t))
    (clear : ∀ s : State, P s → P (s.withAttention { s.attention with due := [] }))
    (effect : ∀ c (s u : State), P s → s.nreset = false → Effect c s u → P u) : Keeps P := by
  intro s n hs h
  rcases step_cases h with ⟨-, rfl⟩ | ⟨c, rest, -, h⟩
  · exact tick s hs
  · have hq := queue s rest hs
    rcases exec_cases h with ⟨level, -, rfl | rfl⟩ | rfl | ⟨released, u, e, rfl⟩
    · exact power _ _
    · exact hq
    · exact hq
    · exact State.judgeNotices_keeps (effect c _ u hq released e) notice clear

end Sys2Proof.Machine
end

section
/-! PROOFS. What the rules of the management kinds leave alone: most work on towers and sources, and of the other blocks
each kind changes its own. -/

namespace Sys2Proof.Machine

@[simp] theorem refuse_state (s : State) (r : Result) (data : List Byte) : (refuse s r data).state = s := rfl

/-! ### The kinds that work on towers and sources alone -/

theorem towerTrimRules_bare (s : State) (p : List Byte) : (towerTrimRules s p).state.bare = s.bare := by
  simp only [towerTrimRules]
  split
  · rfl
  · split
    · split <;> simp
    · rfl

theorem profileBeginRules_bare (s : State) (p : List Byte) : (profileBeginRules s p).state.bare = s.bare := by
  unfold profileBeginRules
  split
  · rfl
  · split
    · split
      · dsimp only
        split <;> simp
      · rfl
      · rfl
    · rfl

theorem profileZonesRules_bare (s : State) (p : List Byte) : (profileZonesRules s p).state.bare = s.bare := by
  simp only [profileZonesRules]
  split
  · rfl
  · split
    · rfl
    · split
      · rfl
      · split
        · rfl
        · split <;> split <;> simp

theorem profileEndRules_bare (s : State) (p : List Byte) : (profileEndRules s p).state.bare = s.bare := by
  unfold profileEndRules
  split
  · rfl
  · split
    · rfl
    · dsimp only
      split <;> simp

theorem jobCommitRules_bare (s : State) (p : List Byte) : (jobCommitRules s p).state.bare = s.bare := by
  simp only [jobCommitRules]
  split
  · rfl
  · split
    · rfl
    · split
      · rfl
      · split
        · rfl
        · split
          · rfl
          · exact State.foldl_bare (State.commitTower_bare _) _ s

theorem keyTrimRules_bare (s : State) (p : List Byte) : (keyTrimRules s p).state.bare = s.bare := by
  simp only [keyTrimRules]
  split
  · rfl
  · split
    · rfl
    · split
      · rfl
      · split <;> simp

theorem densityReportRules_bare (s : State) (p : List Byte) : (densityReportRules s p).state.bare = s.bare := by
  simp only [densityReportRules]
  split
  · rfl
  · split
    · rfl
    · split
      · rfl
      · split <;> simp

theorem faultClearRules_bare (s : State) (p : List Byte) : (faultClearRules s p).state.bare = s.bare := by
  simp only [faultClearRules]
  split
  · rfl
  · split
    · rfl
    · split <;> simp

theorem attentionConfigRules_bare (s : State) (p : List Byte) : (attentionConfigRules s p).state.bare = s.bare := by
  simp only [attentionConfigRules]
  split
  · rfl
  · split
    · rfl
    · split
      · rfl
      · dsimp only
        split <;> simp

theorem attentionPollRules_bare (s : State) (p : List Byte) : (attentionPollRules s p).state.bare = s.bare := by
  simp only [attentionPollRules]
  split
  · rfl
  · split <;> simp

/-! ### The kinds with a block of their own -/

/-- The Poller's part in a TOWER_SETUP touches the Poller, and a source when a trigger overruns (R152, R157). -/
theorem State.pollerAfterSetup_bare (s : State) (enabled : Bool) :
    (s.pollerAfterSetup enabled).bare = s.bare.withPoller (s.pollerAfterSetup enabled).poller := by
  have passed (u : State) (h : u = s ∨ u = s.passStale) : u.bare = s.bare.withPoller u.poller := by
    rcases h with rfl | rfl
    · rfl
    · exact s.passStale_bare
  have asked (u : State) (h : u = s ∨ u = s.passStale) : u.trigger.bare = s.bare.withPoller u.trigger.poller := by
    rw [State.trigger_bare, passed u h]
    rfl
  simp only [State.pollerAfterSetup]
  split <;> split
  · exact asked _ (.inr rfl)
  · exact asked _ (.inl rfl)
  · exact passed _ (.inr rfl)
  · exact passed _ (.inl rfl)

@[simp] theorem State.pollerAfterSetup_towers (s : State) (enabled : Bool) :
    (s.pollerAfterSetup enabled).towers = s.towers := by
  simp only [State.pollerAfterSetup]
  split <;> split <;> simp

theorem towerSetupRules_bare (s : State) (p : List Byte) :
    (towerSetupRules s p).state.bare = s.bare.withPoller (towerSetupRules s p).state.poller := by
  unfold towerSetupRules
  split
  · rw [State.pollerAfterSetup_bare, State.derivePhase_bare, State.withTower_bare]
  · rfl
  · rfl

theorem sweepConfigRules_bare (s : State) (p : List Byte) :
    (sweepConfigRules s p).state.bare = s.bare.withPoller (sweepConfigRules s p).state.poller := by
  unfold sweepConfigRules
  split <;> rfl

theorem curveLoadRules_bare (s : State) (p : List Byte) :
    (curveLoadRules s p).state.bare = { s.bare with curves := (curveLoadRules s p).state.curves } := by
  unfold curveLoadRules
  split
  · rfl
  · split
    · dsimp only
      split
      · rfl
      · have kept := State.foldl_bare State.recomputeTower_bare
        have same := fun l u => (State.bare_eq_iff.1 (kept l u)).2.2.2.1
        rw [kept, same]
        rfl
    · rfl

theorem pressStateRules_bare (s : State) (p : List Byte) : ∃ q,
    (pressStateRules s p).state.bare = s.bare.withPress { s.press with state := q } := by
  unfold pressStateRules
  split
  · exact ⟨s.press.state, rfl⟩
  · exact ⟨_, rfl⟩

theorem State.changeMode_bare (s : State) (new : Mode) :
    (s.changeMode new).bare = (s.bare.withPress { s.press with mode := new }).withPoller (s.changeMode new).poller := by
  unfold State.changeMode
  split
  · rename_i was
    have kept := State.foldl_bare State.passthroughTower_bare allTowers (s.withPress { s.press with mode := .passthrough })
    have same := congrArg State.poller kept
    unfold State.enterPassthrough State.abandonRound
    rw [State.withPoller_bare, kept]
    rfl
  · exact State.trigger_bare _
  · rename_i was
    rw [← was]
    rfl
  · rename_i was
    rw [← was]
    rfl

theorem modeRules_bare (s : State) (p : List Byte) : ∃ q,
    (modeRules s p).state.bare =
      (s.bare.withPress { s.press with mode := q }).withPoller (modeRules s p).state.poller := by
  unfold modeRules
  split
  · exact ⟨s.press.mode, rfl⟩
  · exact ⟨_, s.changeMode_bare _⟩

theorem restartRules_bare (s : State) (p : List Byte) : (restartRules s p).state = s ∨ ∃ k,
    (restartRules s p).state = s.withHandler { s.handler with restart := .waiting k (s.console.tx.length + 1) } := by
  unfold restartRules
  split
  · exact .inl rfl
  · exact .inr ⟨_, rfl⟩

/-! ### All the kinds -/

/-- What the rules of a management kind change besides towers and sources. -/
theorem Manages.bare_cases {c : Instr} {k : Kind} {rules : State → List Byte → Answer} (m : Manages c k rules)
    (s : State) (p : List Byte) : let u := (rules s p).state
    u.bare = s.bare ∨ ((c = .towerSetup ∨ c = .sweepConfig) ∧ u.bare = (s.withPoller u.poller).bare) ∨
      (c = .curveLoad ∧ u.bare = State.bare { s with curves := u.curves }) ∨
      (c = .pressState ∧ ∃ q, u.bare = (s.withPress { s.press with state := q }).bare) ∨
      (c = .mode ∧ ∃ q, u.bare = ((s.withPress { s.press with mode := q }).withPoller u.poller).bare) ∨
      (c = .restart ∧ ∃ k, u = s.withHandler { s.handler with restart := .waiting k (s.console.tx.length + 1) }) := by
  cases m with
  | towerSetup => exact .inr (.inl ⟨.inl rfl, towerSetupRules_bare s p⟩)
  | sweepConfig => exact .inr (.inl ⟨.inr rfl, sweepConfigRules_bare s p⟩)
  | curveLoad => exact .inr (.inr (.inl ⟨rfl, curveLoadRules_bare s p⟩))
  | pressState => exact .inr (.inr (.inr (.inl ⟨rfl, pressStateRules_bare s p⟩)))
  | mode => exact .inr (.inr (.inr (.inr (.inl ⟨rfl, modeRules_bare s p⟩))))
  | restart =>
    rcases restartRules_bare s p with same | waits
    · exact .inl (congrArg State.bare same)
    · exact .inr (.inr (.inr (.inr (.inr ⟨rfl, waits⟩))))
  | towerTrim => exact .inl (towerTrimRules_bare s p)
  | profileBegin => exact .inl (profileBeginRules_bare s p)
  | profileZones => exact .inl (profileZonesRules_bare s p)
  | profileEnd => exact .inl (profileEndRules_bare s p)
  | jobCommit => exact .inl (jobCommitRules_bare s p)
  | keyTrim => exact .inl (keyTrimRules_bare s p)
  | densityReport => exact .inl (densityReportRules_bare s p)
  | faultClear => exact .inl (faultClearRules_bare s p)
  | attentionConfig => exact .inl (attentionConfigRules_bare s p)
  | attentionPoll => exact .inl (attentionPollRules_bare s p)

/-- No rules of a kind touch the lines, the sheet counter, nRESET or the queue of commands. -/
theorem Manages.lines_kept {c : Instr} {k : Kind} {rules : State → List Byte → Answer} (m : Manages c k rules)
    (s : State) (p : List Byte) : let u := (rules s p).state
    u.nreset = s.nreset ∧ u.console = s.console ∧ u.sheetCount = s.sheetCount ∧ u.drive = s.drive ∧
      u.pending = s.pending := by
  have field {u v : State} (e : u.bare = v.bare) : u.nreset = v.nreset ∧ u.console = v.console ∧
      u.sheetCount = v.sheetCount ∧ u.drive = v.drive ∧ u.pending = v.pending := by
    obtain ⟨h1, h2, -, -, h5, h6, -, -, h9⟩ := State.bare_eq_iff.1 e
    exact ⟨h1, h2, h5, h6, h9⟩
  rcases m.bare_cases s p with e | ⟨-, e⟩ | ⟨-, e⟩ | ⟨-, q, e⟩ | ⟨-, q, e⟩ | ⟨-, q, e⟩
  · exact (field e :)
  · exact (field e :)
  · exact (field e :)
  · exact (field e :)
  · exact (field e :)
  · rw [e]
    exact ⟨rfl, rfl, rfl, rfl, rfl⟩

end Sys2Proof.Machine
end

section
/-! PROOFS. Rules about the whole part: what can stand on the drive line after a step, and which commands can change
which items outside the towers. -/

namespace Sys2Proof.Machine

/-! ### The drive line after an operation -/

/-- A line that starts nothing: what is being sent was being sent before, no MOVE has come onto it, and the targets that it
carries it carried before. -/
def Line.Follows (l l' : Line) : Prop :=
  (∀ what u warm, l' = .sending what u warm → ∃ before, l = .sending what u before) ∧
    (l'.hasMove = true → l.hasMove = true) ∧ ∀ b ∈ l'.batch, b ∈ l.batch

theorem Line.Follows.refl (l : Line) : l.Follows l := ⟨fun _ _ warm h => ⟨warm, h⟩, id, fun _ => id⟩

theorem Line.Follows.free (l : Line) : l.Follows .free := ⟨nofun, nofun, nofun⟩

theorem Line.Follows.gap (l : Line) (n : Nat) : l.Follows (.gap n) := ⟨nofun, nofun, nofun⟩

theorem Line.Follows.waiting {r : Transaction} {t : Telegram} {warm : Bool} {n : Nat} :
    (Line.sending (.transaction r) t warm).Follows (.waiting r n) := by
  refine ⟨nofun, ?_⟩
  obtain ⟨_, _ | _ | _, _⟩ := r
  · exact ⟨id, fun _ => id⟩
  · exact ⟨nofun, nofun⟩
  · exact ⟨nofun, nofun⟩

theorem Line.Follows.tick (l : Line) : l.Follows l.tick := by
  cases l with
  | free => exact .refl _
  | sending what t warm => exact .refl _
  | gap n => exact .gap _ _
  | waiting r n =>
    refine ⟨nofun, ?_⟩
    obtain ⟨_, _ | _ | _, _⟩ := r <;> exact ⟨id, fun _ => id⟩

theorem Line.Follows.warm (l : Line) : l.Follows l.warm := by
  cases l with
  | free => exact .refl _
  | gap n => exact .refl _
  | waiting r n => exact .free _
  | sending what t warm =>
    refine ⟨fun _ _ _ h => ?_, ?_⟩
    · cases h
      exact ⟨warm, rfl⟩
    · cases what with
      | halt => exact ⟨id, fun _ => id⟩
      | broadcast => exact ⟨id, fun _ => id⟩
      | transaction r => obtain ⟨_, _ | _ | _, _⟩ := r <;> exact ⟨id, fun _ => id⟩

theorem Line.Follows.cutOff (l : Line) : l.Follows l.cutOff := by
  cases l with
  | sending what t warm => exact .free _
  | free => exact .refl _
  | gap n => exact .refl _
  | waiting r n => exact .refl _

/-! ### What each operation does to the Drive Line Controller -/

theorem State.drive_of_bare {s t : State} (h : s.bare = t.bare) : s.drive = t.drive :=
  (State.bare_eq_iff.1 h).2.2.2.2.2.1

@[simp] theorem State.raise_drive (s : State) (i : SourceIx) (d : Detail) : (s.raise i d).drive = s.drive :=
  State.drive_of_bare (s.raise_bare i d)
@[simp] theorem State.startRound_drive (s : State) : s.startRound.drive = s.drive := rfl
@[simp] theorem State.trigger_drive (s : State) : s.trigger.drive = s.drive :=
  State.drive_of_bare (t := s.withPoller s.trigger.poller) s.trigger_bare
@[simp] theorem State.pollEnded_drive (s : State) : s.pollEnded.drive = s.drive :=
  State.drive_of_bare (t := s.withPoller s.pollEnded.poller) s.pollEnded_bare
@[simp] theorem State.breakLoad_drive (s : State) (i : TowerIx) : (s.breakLoad i).drive = s.drive :=
  State.drive_of_bare (s.breakLoad_bare i)
@[simp] theorem State.motionExpired_drive (s : State) (i : TowerIx) (g : GroupIx) :
    (s.motionExpired i g).drive = s.drive :=
  State.drive_of_bare (s.motionExpired_bare i g)
@[simp] theorem State.haltEffects_drive (s : State) : s.haltEffects.drive = s.drive :=
  State.drive_of_bare s.haltEffects_bare

@[simp] theorem State.judgeNotices_drive (s : State) : s.judgeNotices.drive = s.drive := by
  obtain ⟨notices, e⟩ := s.judgeNotices_bare
  rw [← State.withConsole_bare] at e
  exact (State.drive_of_bare e).trans rfl

@[simp] theorem State.restorationNotice_drive (s : State) : s.restorationNotice.drive = s.drive := by
  unfold State.restorationNotice
  split
  · rfl
  · split
    · rfl
    · split <;> rfl

@[simp] theorem State.placeInbound_drive (s : State) (t : Telegram) : (s.placeInbound t).drive = s.drive := by
  unfold State.placeInbound
  split
  · rfl
  · exact State.raise_drive _ _ _

@[simp] theorem State.consoleArrival_drive (s : State) (t : Telegram) : (s.consoleArrival t).drive = s.drive := by
  simp only [State.consoleArrival]
  split
  · rw [State.restorationNotice_drive, State.placeInbound_drive]
    rfl
  · rw [State.placeInbound_drive]
    rfl

@[simp] theorem State.consoleInvalid_drive (s : State) : s.consoleInvalid.drive = s.drive := State.raise_drive _ _ _

@[simp] theorem State.sweepExpired_drive (s : State) : s.sweepExpired.drive = s.drive := by
  unfold State.sweepExpired
  split
  · rfl
  · exact State.trigger_drive _

@[simp] theorem State.pollerSheet_drive (s : State) : s.pollerSheet.drive = s.drive := by
  unfold State.pollerSheet
  split
  · rfl
  · dsimp only
    split
    · exact State.trigger_drive _
    · rfl

theorem State.endForward_drive (s : State) (t : Telegram) :
    (s.endForward t).drive = { s.drive with line := .free, dlde := false } := by
  simp only [State.endForward]
  split <;> rfl

/-- Replies to purged telegrams go to the console alone (R142). -/
theorem State.foldl_purgeReply (ts : List Telegram) : ∀ s : State, ∃ sent : List Telegram,
    ts.foldl State.purgeReply s = s.withConsole { s.console with tx := s.console.tx ++ sent } := by
  induction ts with
  | nil => exact fun s => ⟨[], by simp [State.withConsole]⟩
  | cons t ts ih =>
    intro s
    obtain ⟨sent, e⟩ := ih (s.purgeReply t)
    rw [List.foldl_cons, e]
    unfold State.purgeReply
    split
    · exact ⟨forwardRefusal .holdActive t :: sent, by simp [State.send, State.withConsole]⟩
    · exact ⟨sent, rfl⟩

/-- A purge takes the MOVEs out of the forward queue and leaves the line alone (R142). -/
theorem State.purgeMoves_eq (s : State) : ∃ sent : List Telegram, s.purgeMoves =
    (s.withDrive { s.drive with forward := s.drive.forward.filter fun t => t.kind != Config.kindMove }).withConsole
      { s.console with tx := s.console.tx ++ sent } :=
  State.foldl_purgeReply _ _

/-- Routing touches the forward queue of the Drive Line Controller alone (R9). -/
theorem State.route_drive (s : State) (t : Telegram) : (s.route t).drive = s.drive ∨
    (s.drive.forward.length < 8 ∧ (s.route t).drive = { s.drive with forward := s.drive.forward ++ [t] }) := by
  unfold State.route State.offerForward
  split
  · split <;> exact .inl rfl
  · split
    · split
      · exact .inl rfl
      · split
        · exact .inl rfl
        · split
          · exact .inl (State.raise_drive _ _ _)
          · rename_i room
            exact .inr ⟨Nat.lt_of_not_le room, rfl⟩
    · exact .inl rfl

/-- Outside the towers a millisecond is one less on each running timer. -/
theorem State.countDown_bare (s : State) : s.countDown.bare = State.bare { s with
    console := { s.console with silence := tickTimer s.console.silence },
    drive := { s.drive with line := s.drive.line.tick },
    poller := { s.poller with sweepTimer := tickTimer s.poller.sweepTimer } } := by
  unfold State.countDown
  exact State.foldl_bare State.tickTower_bare _ _

/-- A millisecond changes nothing under nRESET, and otherwise the timers and the queue of commands. -/
theorem State.tick_eq (s : State) : s.tick = s ∧ s.nreset = true ∨
    s.tick = s.countDown.withPending s.countDown.expiries ∧ s.nreset = false := by
  unfold State.tick
  cases h : s.nreset
  · exact .inr ⟨if_neg Bool.false_ne_true, rfl⟩
  · exact .inl ⟨if_pos rfl, rfl⟩

theorem State.tick_line (s : State) : s.tick.drive.line = s.drive.line ∨ s.tick.drive.line = s.drive.line.tick := by
  rcases s.tick_eq with ⟨e, -⟩ | ⟨e, -⟩ <;> rw [e]
  · exact .inl rfl
  · exact .inr (congrArg Drive.line (State.drive_of_bare s.countDown_bare))

theorem State.warmRestart_bare (s : State) (h : HoldLevel) :
    (s.warmRestart h).bare = ((s.warmBlocks h).withPoller (s.warmRestart h).poller).bare := by
  unfold State.warmRestart
  rw [State.startRound_bare, State.foldl_bare State.warmTower_bare]
  rfl

theorem State.warmRestart_drive (s : State) (h : HoldLevel) : (s.warmRestart h).drive =
    { s.drive with line := s.drive.line.warm, forward := [], haltPending := haltIfHeld h } :=
  State.drive_of_bare (s.warmRestart_bare h)

/-! ### Grants (R130, R131, R134) -/

/-- The arbiter chooses Move when no HALT is pending, HOLD is RELEASED and Mode NORMAL (R130, R131). -/
theorem State.chosen_move {s : State} (h : s.chosen = some .move) :
    s.drive.haltPending = false ∧ s.press.hold = .released ∧ s.press.mode = .normal := by
  have halt : s.requests .halt = false := by
    by_contra pending
    simp [State.chosen, Bool.eq_true_of_not_eq_false pending] at h
  have move : s.requests .move = true := by
    unfold State.chosen at h
    split at h
    · cases h
    · split at h
      · cases h
      · split at h
        · rename_i both
          exact (Bool.and_eq_true_iff.1 both).2
        · split at h
          · cases h
          · split at h
            · assumption
            · cases h
  simp only [State.requests, Bool.and_eq_true, beq_iff_eq] at halt move
  exact ⟨halt, move.1.1, move.1.2⟩

/-- A group that a tower finds eligible (R134). -/
theorem Tower.eligible_iff {w : Tower} {g : GroupIx} : w.eligible g = true ↔ w.setup.enabled = true ∧
    (∃ r, w.group? g = some r ∧ r.presence = .present ∧ r.busy = false ∧ r.isLocal = false) ∧
      ∃ k ∈ w.keys, k.group = g.val ∧ k.state = .pending := by
  unfold Tower.eligible Tower.groupKeys
  cases w.group? g <;> simp [and_assoc]

theorem Tower.eligible_of_lowest {w : Tower} {g : GroupIx} (h : w.lowestEligible = some g) : w.eligible g = true :=
  List.find?_some h

theorem Tower.group?_mem {w : Tower} {g : GroupIx} {r : Group} (h : w.group? g = some r) :
    r ∈ w.groups ∧ r.index = g :=
  ⟨List.mem_of_find?_eq_some h, by simpa using List.find?_some h⟩

/-! ### The line after an effect -/

/-- What a MOVE on the line asks of the state in which it was granted (R124, R130, R131, R134). -/
def State.MayMove (s : State) (l : Line) : Prop :=
  s.drive.line = .free ∧ s.press.hold = .released ∧ s.press.mode = .normal ∧ s.drive.haltPending = false ∧
    ∃ (i : TowerIx) (r : Group), (s.tower i).setup.enabled = true ∧ r ∈ (s.tower i).groups ∧ r.presence = .present ∧
      r.busy = false ∧ r.isLocal = false ∧ l.destination = some (nodeAddress i r.index) ∧
      ∃ k ∈ (s.tower i).keys, (k.index - 1) / 12 = r.index.val ∧ k.state = .pending

/-- A MOVE grant sends to a group that may be moved. -/
theorem State.moveSent_mayMove {s : State} {i : TowerIx} {g : GroupIx} {r : Group} (free : s.drive.line = .free)
    (chosen : s.chosen = some .move) (lowest : (s.tower i).lowestEligible = some g)
    (record : (s.tower i).group? g = some r) : s.MayMove (s.moveSent i g r).drive.line := by
  obtain ⟨halt, hold, mode⟩ := State.chosen_move chosen
  obtain ⟨enabled, ⟨r', record', presence, busy, isLocal⟩, k, key, inGroup, pending⟩ :=
    Tower.eligible_iff.1 (Tower.eligible_of_lowest lowest)
  obtain rfl : r' = r := by simpa [record'] using record
  obtain ⟨mem, rfl⟩ := Tower.group?_mem record
  exact ⟨free, hold, mode, halt, i, r', enabled, mem, presence, busy, isLocal, rfl, k, key, inGroup, pending⟩

/-- A telegram that comes onto the line is started by a grant while the line is FREE, and a MOVE by MOVE_GRANT alone. -/
theorem Effect.line {c : Instr} {s u : State} (e : Effect c s u) :
    s.drive.line.Follows u.drive.line ∨ (s.drive.line = .free ∧ u.drive.line.hasMove = false) ∨
      (c = .moveGrant ∧ s.MayMove u.drive.line) := by
  cases e with
  | idle => exact .inl (.refl _)
  | managed m hand kind len =>
    obtain ⟨-, -, -, drive, -⟩ := m.lines_kept s _
    exact .inl (drive ▸ Line.Follows.refl _)
  | answered hand => exact .inl (.refl _)
  | nresetAssert => exact .inl (.cutOff _)
  | consoleArrival valid => exact .inl (by rw [State.consoleArrival_drive]; exact .refl _)
  | consoleInvalid => exact .inl (by rw [State.consoleInvalid_drive]; exact .refl _)
  | silenceExpired link => exact .inl (by rw [State.raise_drive]; exact .refl _)
  | transmitted queue => exact .inl (.refl _)
  | handlerTake inbound ready place =>
    refine .inl ?_
    rcases State.route_drive (s.taken _ _) _ with same | ⟨-, queued⟩
    · rw [same]; exact .refl _
    · rw [queued]; exact .refl _
  | idleExpiry => exact .inl (by rw [State.breakLoad_drive]; exact .refl _)
  | warmRestart due => exact .inl (by rw [State.warmRestart_drive]; exact .warm _)
  | coldRestart due => exact .inl (.free _)
  | haltGrant free chosen => exact .inr (.inl ⟨free, rfl⟩)
  | forwardGrant free chosen queue =>
    refine .inr (.inl ⟨free, ?_⟩)
    unfold State.sendForward
    split <;> rfl
  | sweepGrant free chosen current record => exact .inr (.inl ⟨free, rfl⟩)
  | moveGrant free chosen first lowest record =>
    exact .inr (.inr ⟨rfl, State.moveSent_mayMove free chosen lowest record⟩)
  | windowOpens line => exact .inl (by rw [line]; exact .waiting)
  | abandonedSent line => exact .inl (.free _)
  | broadcastSent line => exact .inl (.gap _ _)
  | haltSent line => exact .inl (by rw [State.haltEffects_drive]; exact .gap _ _)
  | warmHaltSent line => exact .inl (.gap _ _)
  | gapEnd line => exact .inl (.free _)
  | moveAccepted line guard => exact .inl (.free _)
  | moveRejected line guard => exact .inl (.free _)
  | moveMissed line guard => exact .inl (.free _)
  | moveStray line => exact .inl (.free _)
  | statusTaken line guard => exact .inl (.free _)
  | statusMissed line guard => exact .inl (.free _)
  | statusStray line => exact .inl (.free _)
  | forwardEnded line => exact .inl (by rw [State.endForward_drive]; exact .free _)
  | motionExpired => exact .inl (by rw [State.motionExpired_drive]; exact .refl _)
  | sweepExpired running => exact .inl (by rw [State.sweepExpired_drive]; exact .refl _)
  | sheetPulse => exact .inl (by rw [State.pollerSheet_drive]; exact .refl _)
  | holdAsserted hold =>
    refine .inl ?_
    rw [State.raise_drive]
    obtain ⟨sent, e⟩ := State.purgeMoves_eq
      ((s.withPress { s.press with hold := .asserted }).withDrive { s.drive with haltPending := true })
    rw [e]
    exact .refl _
  | holdReleased hold => exact .inl (by rw [State.raise_drive]; exact .refl _)

/-- Settles O60: what every effect does to the line, for the command at the front of the queue; a millisecond and the
power-on state start nothing. -/
theorem noMoveUnderHold : Obligations.NoMoveUnderHold := by
  intro s n h
  have follows : s.drive.line.Follows n.drive.line →
      (∀ what u warm, n.drive.line = .sending what u warm →
        s.drive.line = .free ∨ ∃ before, s.drive.line = .sending what u before) ∧
      (n.drive.line.hasMove = true → s.drive.line.hasMove = true ∨
        s.drive.line = .free ∧ s.pending.head? = some .moveGrant ∧ s.press.hold = .released ∧ s.press.mode = .normal ∧
          s.drive.haltPending = false ∧ ∃ (i : TowerIx) (r : Group), (s.tower i).setup.enabled = true ∧
            r ∈ (s.tower i).groups ∧ r.presence = .present ∧ r.busy = false ∧ r.isLocal = false ∧
            n.drive.line.destination = some (nodeAddress i r.index) ∧
            ∃ k ∈ (s.tower i).keys, (k.index - 1) / 12 = r.index.val ∧ k.state = .pending) :=
    fun f => ⟨fun what u warm e => .inr (f.1 what u warm e), fun e => .inl (f.2.1 e)⟩
  rcases step_cases h with ⟨-, rfl⟩ | ⟨c, rest, queue, h⟩
  · refine follows ?_
    rcases s.tick_line with same | ticked
    · rw [same]; exact .refl _
    · rw [ticked]; exact .tick _
  · rcases exec_cases h with ⟨level, -, rfl | rfl⟩ | rfl | ⟨-, u, e, rfl⟩
    · exact follows (.free _)
    · exact follows (.refl _)
    · exact follows (.refl _)
    · rw [State.judgeNotices_drive]
      rcases e.line with f | ⟨free, noMove⟩ | ⟨rfl, free, hold, mode, halt, group⟩
      · rw [State.judgeNotices_drive] at follows
        exact follows f
      · exact ⟨fun _ _ _ _ => .inl free, fun e => by simp [noMove] at e⟩
      · exact ⟨fun _ _ _ _ => .inl free, fun _ => .inr ⟨free, by simp [queue], hold, mode, halt, group⟩⟩

end Sys2Proof.Machine
end

section
/-! PROOFS. The places of the buffers and queues (R6, R8, R13, R14, R19, R139): what one answer, one notice, one taking
and one forward do to them, and from that every step. -/

namespace Sys2Proof.Machine

/-! ### The places before and after an operation -/

/-- The places are judged by the Console Port, the Management Handler and the Drive Line Controller. -/
theorem State.placesOk_congr {s t : State} (console : t.console = s.console) (handler : t.handler = s.handler)
    (drive : t.drive = s.drive) (h : s.placesOk) : t.placesOk := by
  unfold State.placesOk
  rw [console, handler, drive]
  exact h

theorem State.placesOk_of_bare {s t : State} (same : s.bare = t.bare) (h : t.placesOk) : s.placesOk := by
  obtain ⟨-, console, handler, -, -, drive, -, -, -⟩ := State.bare_eq_iff.1 same
  exact State.placesOk_congr console handler drive h

/-- The reserved places, one for each flag (R13). -/
theorem ConsolePort.reserved_eq (c : ConsolePort) :
    c.reserved = c.reservedHandler.toNat + c.reservedForward.toNat := by
  unfold ConsolePort.reserved
  cases c.reservedHandler <;> cases c.reservedForward <;> rfl

/-- What places are free (R13). -/
theorem ConsolePort.le_freePlaces {c : ConsolePort} {n : Nat} (pos : 0 < n) :
    n ≤ c.freePlaces ↔ c.tx.length + c.reserved + n ≤ 16 := by
  show n ≤ 16 - c.tx.length - c.reserved ↔ _
  omega

/-- A telegram that finds a free place joins the transmit queue. -/
theorem State.placesOk_send {s : State} (h : s.placesOk) (t : Telegram) (place : 1 ≤ s.console.freePlaces) :
    (s.send t).placesOk := by
  obtain ⟨inbound, forward, -, hand, line, idle, ahead⟩ := h
  have room := (ConsolePort.le_freePlaces one_pos).1 place
  refine ⟨inbound, forward, ?_, hand, line, idle, fun n hn => ?_⟩
  · simp only [State.send_tx, List.length_append, List.length_singleton]
    show s.console.tx.length + 1 + s.console.reserved ≤ 16
    omega
  · obtain ⟨lo, hi⟩ := ahead n hn
    simp only [State.send_tx, List.length_append]
    omega

/-- An answer takes over the place reserved for it (R8, R11). -/
theorem State.placesOk_answered {s : State} (h : s.placesOk) {t u : Telegram} (held : s.handler.hand = some u)
    (kind : Byte) (r : Result) (data : List Byte) : (s.answered kind t r data).placesOk := by
  obtain ⟨inbound, forward, places, hand, line, idle, -⟩ := h
  have reserved := hand (by simp [held])
  have waits := idle (by simp [held])
  refine ⟨inbound, forward, ?_, nofun, line, nofun, fun n hn => ?_⟩
  · rw [ConsolePort.reserved_eq, reserved] at places
    simp only [State.answered, ConsolePort.reserved_eq, List.length_append, List.length_singleton]
    grind
  · rw [show (s.answered kind t r data).handler.restart = s.handler.restart from rfl, waits] at hn
    cases hn

/-- A telegram that is dropped gives its place back (R8). -/
theorem State.placesOk_dropHeld {s : State} (h : s.placesOk) : s.dropHeld.placesOk := by
  obtain ⟨inbound, forward, places, hand, line, idle, ahead⟩ := h
  refine ⟨inbound, forward, ?_, nofun, line, nofun, ahead⟩
  rw [ConsolePort.reserved_eq] at places
  simp only [State.dropHeld, State.withConsole_console, ConsolePort.reserved_eq]
  grind

/-- A change of the line that leaves no forward in hand. -/
theorem State.placesOk_withLine {s : State} (h : s.placesOk) {l : Line}
    (none : l.forwardInHand = true → s.drive.line.forwardInHand = true) : (s.withLine l).placesOk := by
  obtain ⟨inbound, forward, places, hand, line, idle, ahead⟩ := h
  exact ⟨inbound, forward, places, hand, fun e => line (none e), idle, ahead⟩

/-- A change of the Drive Line Controller that leaves the line alone. -/
theorem State.placesOk_withDrive {s : State} (h : s.placesOk) {d : Drive} (line : d.line = s.drive.line)
    (queue : d.forward.length ≤ 8) : (s.withDrive d).placesOk := by
  obtain ⟨inbound, -, places, hand, inHand, idle, ahead⟩ := h
  exact ⟨inbound, queue, places, hand, fun e => inHand (line ▸ e), idle, ahead⟩

theorem State.placesOk_withPoller {s : State} (h : s.placesOk) (p : Poller) : (s.withPoller p).placesOk := h

theorem State.placesOk_withPending {s : State} (h : s.placesOk) (q : List Instr) : (s.withPending q).placesOk := h

theorem State.placesOk_raise {s : State} (h : s.placesOk) (i : SourceIx) (d : Detail) : (s.raise i d).placesOk :=
  State.placesOk_of_bare (s.raise_bare i d) h

theorem State.placesOk_trigger {s : State} (h : s.placesOk) : s.trigger.placesOk := by
  rcases s.trigger_cases with ⟨p, e⟩ | e <;> rw [e]
  · exact State.placesOk_withPoller h p
  · exact State.placesOk_raise h _ _

theorem State.placesOk_pollEnded {s : State} (h : s.placesOk) : s.pollEnded.placesOk := by
  rw [State.pollEnded_eq]
  exact State.placesOk_withPoller h _

/-! ### Reception and taking (R6, R8) -/

theorem State.placesOk_placeInbound {s : State} (h : s.placesOk) (t : Telegram) : (s.placeInbound t).placesOk := by
  unfold State.placeInbound
  obtain ⟨inbound, rest⟩ := h
  split
  · rename_i room
    refine ⟨?_, rest⟩
    simp only [State.withConsole_console, List.length_append, List.length_singleton]
    exact room
  · refine State.placesOk_raise ?_ _ _
    exact ⟨inbound, rest⟩

theorem State.placesOk_restorationNotice {s : State} (h : s.placesOk) : s.restorationNotice.placesOk := by
  unfold State.restorationNotice
  split
  · exact h
  · split
    · exact h
    · split
      · rename_i places
        exact State.placesOk_send h _ (le_trans (by decide) places)
      · exact h

theorem State.placesOk_consoleArrival {s : State} (h : s.placesOk) (t : Telegram) :
    (s.consoleArrival t).placesOk := by
  have placed := State.placesOk_placeInbound (s := s.linkArrival) h t
  simp only [State.consoleArrival]
  split
  · exact State.placesOk_restorationNotice placed
  · exact placed

/-- What the routing of a telegram in hand does (R9, R10, R12). -/
theorem State.route_cases (s : State) (t : Telegram) :
    s.route t = s ∨ (∃ kind r data, s.route t = s.answered kind t r data) ∨ s.route t = s.dropHeld ∨
      (∃ r data, s.route t =
        (s.withConsole { s.console with noRouteCount := satAdd s.console.noRouteCount }).answered 0x80 t r data) ∨
      (∃ r data, s.route t = (s.answered 0x80 t r data).raise srcFwdOverflow (forwardDetail t.dest)) ∨
      (s.drive.forward.length < 8 ∧
        s.route t = s.dropHeld.withDrive { s.drive with forward := s.drive.forward ++ [t] }) := by
  unfold State.route State.offerForward
  split
  · split
    · exact .inr (.inl ⟨_, _, _, rfl⟩)
    · exact .inl rfl
  · split
    · split
      · exact .inr (.inr (.inl rfl))
      · split
        · exact .inr (.inl ⟨_, _, _, rfl⟩)
        · split
          · exact .inr (.inr (.inr (.inr (.inl ⟨_, _, rfl⟩))))
          · rename_i room
            exact .inr (.inr (.inr (.inr (.inr ⟨Nat.lt_of_not_le room, rfl⟩))))
    · exact .inr (.inr (.inr (.inl ⟨_, _, rfl⟩)))

/-- The Handler is ready when it holds nothing and waits for no restart (R8). -/
theorem State.handlerReady_iff {s : State} : s.handlerReady = true ↔
    s.handler.hand = none ∧ s.handler.restart = .idle ∧ s.console.inbound ≠ [] := by
  unfold State.handlerReady
  cases s.console.inbound <;> simp

theorem State.placesOk_taken {s : State} (h : s.placesOk) {t : Telegram} {rest : List Telegram}
    (inbound : s.console.inbound = t :: rest) (ready : s.handlerReady = true) (place : 1 ≤ s.console.freePlaces) :
    (s.taken t rest).placesOk := by
  obtain ⟨few, forward, -, -, line, -, ahead⟩ := h
  obtain ⟨-, waits, -⟩ := State.handlerReady_iff.1 ready
  have room := (ConsolePort.le_freePlaces one_pos).1 place
  refine ⟨?_, forward, ?_, fun _ => rfl, line, fun _ => waits, ahead⟩
  · rw [inbound, List.length_cons] at few
    exact Nat.le_of_succ_le few
  · rw [ConsolePort.reserved_eq] at room
    simp only [State.taken, State.withHandler_console, State.withConsole_console, ConsolePort.reserved_eq]
    grind

theorem State.placesOk_route {s : State} (h : s.placesOk) {t : Telegram} (held : s.handler.hand = some t) :
    (s.route t).placesOk := by
  rcases s.route_cases t with e | ⟨_, _, _, e⟩ | e | ⟨_, _, e⟩ | ⟨_, _, e⟩ | ⟨room, e⟩ <;> rw [e]
  · exact h
  · exact State.placesOk_answered h held _ _ _
  · exact State.placesOk_dropHeld h
  · exact State.placesOk_answered (s := s.withConsole _) h held _ _ _
  · exact State.placesOk_raise (State.placesOk_answered h held _ _ _) _ _
  · refine State.placesOk_withDrive (State.placesOk_dropHeld h) rfl ?_
    rw [List.length_append]
    exact room

/-! ### The rules of the kinds -/

theorem State.handler_of_bare {s t : State} (h : s.bare = t.bare) : s.handler = t.handler :=
  (State.bare_eq_iff.1 h).2.2.1

/-- Of the kinds, RESTART alone touches the Handler (R19). -/
theorem Manages.handler_kept {c : Instr} {k : Kind} {rules : State → List Byte → Answer} (m : Manages c k rules)
    (s : State) (p : List Byte) : (rules s p).state.handler = s.handler ∨ (c = .restart ∧ ∃ k,
      (rules s p).state = s.withHandler { s.handler with restart := .waiting k (s.console.tx.length + 1) }) := by
  rcases m.bare_cases s p with e | ⟨-, e⟩ | ⟨-, e⟩ | ⟨-, q, e⟩ | ⟨-, q, e⟩ | waits
  · exact .inl (State.handler_of_bare e :)
  · exact .inl (State.handler_of_bare e :)
  · exact .inl (State.handler_of_bare e :)
  · exact .inl (State.handler_of_bare e :)
  · exact .inl (State.handler_of_bare e :)
  · exact .inr waits

/-- A Handler that waits for a restart has its REPLY at the tail of the transmit queue (R19). -/
theorem State.placesOk_restartAnswered {s : State} (h : s.placesOk) {t u : Telegram} (held : s.handler.hand = some u)
    (k : RestartKind) (kind : Byte) (r : Result) (data : List Byte) :
    ((s.withHandler { s.handler with restart := .waiting k (s.console.tx.length + 1) }).answered kind t r data).placesOk := by
  obtain ⟨inbound, forward, places, hand, line, -, -⟩ := State.placesOk_answered (t := t) h held kind r data
  refine ⟨inbound, forward, places, hand, line, nofun, fun n hn => ?_⟩
  obtain rfl : s.console.tx.length + 1 = n := by simpa [State.answered, Restart.ahead] using hn
  simp [State.answered]

theorem State.placesOk_managed {c : Instr} {s : State} {k : Kind} {rules : State → List Byte → Answer} {t : Telegram}
    (h : s.placesOk) (m : Manages c k rules) (held : s.handler.hand = some t) (p : List Byte) (r : Result)
    (data : List Byte) : ((rules s p).state.answered 0x80 t r data).placesOk := by
  obtain ⟨-, console, -, drive, -⟩ := m.lines_kept s p
  rcases m.handler_kept s p with handler | ⟨-, k, e⟩
  · exact State.placesOk_answered (State.placesOk_congr console handler drive h) (handler ▸ held) _ _ _
  · rw [e]
    exact State.placesOk_restartAnswered h held k _ _ _

/-! ### The forward queue (R13, R14, R142) -/

theorem State.chosen_forward {s : State} (h : s.chosen = some .forward) : s.requests .forward = true := by
  unfold State.chosen at h
  split at h
  · cases h
  · split at h
    · assumption
    · split at h
      · split at h <;> cases h
      · split at h
        · cases h
        · split at h <;> cases h

theorem State.placesOk_sendForward {s : State} (h : s.placesOk) {t : Telegram}
    (place : t.dest = Config.broadcastNode ∨ 1 ≤ s.console.freePlaces) : (s.sendForward t).placesOk := by
  unfold State.sendForward
  split
  · exact State.placesOk_withLine h nofun
  · rename_i drive
    have room := (ConsolePort.le_freePlaces one_pos).1 (place.resolve_left drive)
    obtain ⟨inbound, forward, -, hand, -, idle, ahead⟩ := h
    refine ⟨inbound, forward, ?_, hand, fun _ => rfl, idle, ahead⟩
    rw [ConsolePort.reserved_eq] at room
    simp only [State.startSending, State.withLine_console, State.withConsole_console, ConsolePort.reserved_eq]
    grind

theorem State.placesOk_forwardGrant {s : State} (h : s.placesOk) {t : Telegram} {rest : List Telegram}
    (chosen : s.chosen = some .forward) (queue : s.drive.forward = t :: rest) :
    ((s.withDrive { s.drive with forward := rest }).sendForward t).placesOk := by
  have requests := State.chosen_forward chosen
  simp only [State.requests, queue, Bool.or_eq_true, beq_iff_eq, State.forwardPlace] at requests
  have fewer : rest.length ≤ 8 := by
    have few := h.2.1
    rw [queue, List.length_cons] at few
    omega
  refine State.placesOk_sendForward (State.placesOk_withDrive h ?_ ?_) (requests.imp_right fun place => ?_)
  · rfl
  · exact fewer
  · split at place
    · exact le_trans (by decide) (of_decide_eq_true place)
    · exact of_decide_eq_true place

theorem State.placesOk_endForward {s : State} (h : s.placesOk) (inHand : s.drive.line.forwardInHand = true)
    (t : Telegram) : (s.endForward t).placesOk := by
  obtain ⟨inbound, forward, places, hand, line, idle, ahead⟩ := h
  rw [ConsolePort.reserved_eq, line inHand, Bool.toNat_true] at places
  have released : ((s.withConsole { s.console with reservedForward := false }).withLine .free).placesOk := by
    refine ⟨inbound, forward, ?_, hand, nofun, idle, ahead⟩
    simp only [State.withLine_console, State.withConsole_console, ConsolePort.reserved_eq, Bool.toNat_false]
    omega
  simp only [State.endForward]
  split
  · refine State.placesOk_send released t ((ConsolePort.le_freePlaces one_pos).2 ?_)
    simp only [State.withLine_console, State.withConsole_console, ConsolePort.reserved_eq, Bool.toNat_false]
    omega
  · exact released

theorem State.placesOk_purgeMoves {s : State} (h : s.placesOk) : s.purgeMoves.placesOk := by
  have fewer : (s.drive.forward.filter fun t => t.kind != Config.kindMove).length ≤ 8 :=
    (List.length_filter_le _ _).trans h.2.1
  refine List.foldlRecOn _ State.purgeReply (State.placesOk_withDrive h rfl fewer) fun u hu t _ => ?_
  unfold State.purgeReply
  split
  · rename_i place
    exact State.placesOk_send hu _ place
  · exact hu

/-! ### Transmission and restarts (R13, R19, R20, R21) -/

theorem Restart.ahead_transmitted {r : Restart} {n : Nat} (h : n ∈ r.transmitted.ahead) :
    1 ≤ n ∧ n + 1 ∈ r.ahead := by
  cases r with
  | idle => cases h
  | due k => cases h
  | waiting k ahead =>
    by_cases last : ahead ≤ 1
    · simp [Restart.transmitted, last, Restart.ahead] at h
    · obtain rfl : ahead - 1 = n := by simpa [Restart.transmitted, last, Restart.ahead] using h
      exact ⟨by omega, congrArg some (by omega)⟩

theorem State.placesOk_transmitted {s : State} (h : s.placesOk) {t : Telegram} {rest : List Telegram}
    (queue : s.console.tx = t :: rest) : ((s.withConsole { s.console with tx := rest }).withHandler
      { s.handler with restart := s.handler.restart.transmitted }).placesOk := by
  obtain ⟨inbound, forward, places, hand, line, idle, ahead⟩ := h
  rw [queue, List.length_cons] at places
  refine ⟨inbound, forward, ?_, hand, line, fun held => ?_, fun n hn => ?_⟩
  · show rest.length + s.console.reserved ≤ 16
    omega
  · rw [State.withHandler_handler, idle held]
    rfl
  · obtain ⟨lo, before⟩ := Restart.ahead_transmitted hn
    obtain ⟨-, hi⟩ := ahead _ before
    rw [queue, List.length_cons] at hi
    exact ⟨lo, Nat.le_of_succ_le_succ hi⟩

theorem State.placesOk_powerOn (s : State) (h : HoldLevel) : (s.powerOn h).placesOk := by
  exact ⟨Nat.zero_le _, Nat.zero_le _, Nat.zero_le _, nofun, nofun, nofun, nofun⟩

theorem State.placesOk_warmRestart {s : State} (h : s.placesOk) (level : HoldLevel) :
    (s.warmRestart level).placesOk := by
  have warmed : (s.warmBlocks level).placesOk := by
    refine ⟨h.1, Nat.zero_le _, by simp [State.warmBlocks, ConsolePort.reserved], nofun, fun inHand => ?_, nofun, nofun⟩
    simp only [State.warmBlocks] at inHand
    cases line : s.drive.line <;> simp [line, Line.warm, Line.forwardInHand, Line.transaction?] at inHand
  exact State.placesOk_of_bare (s.warmRestart_bare level) warmed

/-! ### The line -/

@[simp] theorem Line.forwardInHand_tick (l : Line) : l.tick.forwardInHand = l.forwardInHand := by
  cases l <;> rfl

theorem Line.forwardInHand_cutOff {l : Line} (h : l.cutOff.forwardInHand = true) : l.forwardInHand = true := by
  cases l with
  | sending what t warm => cases h
  | free => exact h
  | gap n => exact h
  | waiting r n => exact h

theorem State.placesOk_countDown {s : State} (h : s.placesOk) : s.countDown.placesOk := by
  obtain ⟨inbound, forward, places, hand, line, idle, ahead⟩ := h
  obtain ⟨-, console, handler, -, -, drive, -, -, -⟩ := State.bare_eq_iff.1 s.countDown_bare
  unfold State.placesOk
  rw [console, handler, drive]
  exact ⟨inbound, forward, places, hand, fun inHand => line (s.drive.line.forwardInHand_tick ▸ inHand), idle, ahead⟩

theorem State.placesOk_tick {s : State} (h : s.placesOk) : s.tick.placesOk := by
  rcases s.tick_eq with ⟨e, -⟩ | ⟨e, -⟩ <;> rw [e]
  · exact h
  · exact State.placesOk_withPending (State.placesOk_countDown h) _

/-- Every effect keeps the places. -/
theorem Effect.placesOk {c : Instr} {s u : State} (h : s.placesOk) (e : Effect c s u) : u.placesOk := by
  cases e with
  | idle => exact h
  | managed m hand kind len => exact State.placesOk_managed h m hand _ _ _
  | answered hand => exact State.placesOk_answered h hand _ _ _
  | nresetAssert =>
    obtain ⟨inbound, forward, places, hand, line, idle, -⟩ := h
    exact ⟨inbound, forward, places, hand, fun inHand => line (Line.forwardInHand_cutOff inHand), fun _ => rfl, nofun⟩
  | consoleArrival valid => exact State.placesOk_consoleArrival h _
  | consoleInvalid =>
    refine State.placesOk_raise ?_ _ _
    exact h
  | silenceExpired link =>
    obtain ⟨inbound, -, rest⟩ := h
    refine State.placesOk_raise ?_ _ _
    exact ⟨inbound, Nat.zero_le _, rest⟩
  | transmitted queue => exact State.placesOk_transmitted h queue
  | handlerTake inbound ready place => exact State.placesOk_route (State.placesOk_taken h inbound ready place) rfl
  | idleExpiry => exact State.placesOk_of_bare (s.breakLoad_bare _) h
  | warmRestart due => exact State.placesOk_warmRestart h _
  | coldRestart due => exact State.placesOk_powerOn s _
  | haltGrant free chosen =>
    refine State.placesOk_withLine ?_ nofun
    exact h
  | forwardGrant free chosen queue => exact State.placesOk_forwardGrant h chosen queue
  | sweepGrant free chosen current record =>
    refine State.placesOk_withLine ?_ nofun
    exact h
  | moveGrant free chosen first lowest record =>
    refine State.placesOk_withLine ?_ nofun
    exact h
  | windowOpens line =>
    refine State.placesOk_withLine h fun inHand => ?_
    rw [line]
    exact inHand
  | abandonedSent line => exact State.placesOk_withLine h (l := .free) nofun
  | broadcastSent line => exact State.placesOk_withLine h (l := .gap _) nofun
  | haltSent line =>
    refine State.placesOk_of_bare (State.haltEffects_bare _) ?_
    exact State.placesOk_withLine h (l := .gap _) nofun
  | warmHaltSent line => exact State.placesOk_withLine h (l := .gap _) nofun
  | gapEnd line => exact State.placesOk_withLine h (l := .free) nofun
  | moveAccepted line guard =>
    refine State.placesOk_withLine (State.placesOk_of_bare (State.derivePhase_bare _ _) ?_) nofun
    exact h
  | moveRejected line guard =>
    refine State.placesOk_withLine (State.placesOk_of_bare (State.derivePhase_bare _ _) ?_) nofun
    exact h
  | moveMissed line guard =>
    exact State.placesOk_withLine (l := .free) (State.placesOk_of_bare (State.applyExpiry_bare _ _ _ _) h) nofun
  | moveStray line => exact State.placesOk_withLine h (l := .free) nofun
  | statusTaken line guard =>
    refine State.placesOk_withLine (State.placesOk_pollEnded ?_) nofun
    exact State.placesOk_of_bare (State.applyStatus_bare _ _ _ _ _ _) h
  | statusMissed line guard =>
    refine State.placesOk_withLine (State.placesOk_pollEnded ?_) nofun
    exact State.placesOk_of_bare (State.applyExpiry_bare _ _ _ _) h
  | statusStray line => exact State.placesOk_withLine (l := .free) (State.placesOk_pollEnded h) nofun
  | forwardEnded line => exact State.placesOk_endForward h (by rw [line]; rfl) _
  | motionExpired => exact State.placesOk_of_bare (s.motionExpired_bare _ _) h
  | sweepExpired running =>
    simp only [State.sweepExpired, running]
    exact State.placesOk_trigger (State.placesOk_withPoller h _)
  | sheetPulse =>
    have pulsed : (s.withSheets (s.sheetCount + 1)).placesOk := h
    simp only [State.pollerSheet]
    split
    · exact pulsed
    · split
      · exact State.placesOk_trigger (State.placesOk_withPoller pulsed _)
      · exact State.placesOk_withPoller pulsed _
  | holdAsserted hold =>
    refine State.placesOk_raise (State.placesOk_purgeMoves ?_) _ _
    exact h
  | holdReleased hold =>
    refine State.placesOk_raise ?_ _ _
    exact h

/-- Settles O52: each effect keeps the places, a notice has the 4 places that it needs, and a millisecond moves no
telegram. -/
theorem placesKept : Obligations.PlacesKept :=
  keeps_of_effects (fun _ _ h => State.placesOk_withPending h _) State.placesOk_powerOn (fun _ => State.placesOk_tick)
    (fun _ t h places => State.placesOk_send h t (le_trans (by decide) places)) (fun _ h => h)
    fun _ _ _ h _ e => e.placesOk h

end Sys2Proof.Machine
end

section
/-! PROOFS. The Attention Unit, the outputs, the counters and the rotation order (R1, R6, R16, R18, R126, R133, R181,
R182): but for its two telegrams and the restarts, an event only adds occurrences to the sources. -/

namespace Sys2Proof.Machine

/-! ### Occurrences of an event -/

/-- The sources of `u` are those of `s` after some occurrences, each with a detail of its source's form (R182, Table
10-1). -/
def State.Raises (s u : State) : Prop :=
  ∃ os : List (SourceIx × Detail), (∀ o ∈ os, detailFits o.1 o.2 = true) ∧ u.attention = (s.raiseAll os).attention

/-- What an occurrence does to the sources depends on the sources alone. -/
theorem State.raiseAll_attention_congr (os : List (SourceIx × Detail)) : ∀ {s t : State}, s.attention = t.attention →
    (s.raiseAll os).attention = (t.raiseAll os).attention := by
  induction os with
  | nil => exact fun h => h
  | cons o os ih =>
    intro s t h
    refine ih ?_
    have source : s.source o.1 = t.source o.1 := congrArg (fun a : Attention => a.sources[o.1]) h
    show (s.raise o.1 o.2).attention = (t.raise o.1 o.2).attention
    unfold State.raise
    rw [source, h]
    split <;> simp [State.withSource, h]

theorem State.Raises.of_attention {s u : State} (h : u.attention = s.attention) : s.Raises u :=
  ⟨[], by simp, h⟩

theorem State.Raises.refl (s : State) : s.Raises s := .of_attention rfl

theorem State.Raises.trans {s u v : State} (h : s.Raises u) (h' : u.Raises v) : s.Raises v := by
  obtain ⟨os, fit, e⟩ := h
  obtain ⟨more, fit', e'⟩ := h'
  refine ⟨os ++ more, fun o ho => (List.mem_append.1 ho).elim (fit o) (fit' o), ?_⟩
  rw [e', State.raiseAll_append]
  exact State.raiseAll_attention_congr more e

theorem State.Raises.raiseAll (s : State) {os : List (SourceIx × Detail)}
    (fit : ∀ o ∈ os, detailFits o.1 o.2 = true) : s.Raises (s.raiseAll os) := ⟨os, fit, rfl⟩

theorem State.Raises.raise (s : State) {i : SourceIx} {d : Detail} (fit : detailFits i d = true) :
    s.Raises (s.raise i d) := .raiseAll s (os := [(i, d)]) (by simpa using fit)

theorem State.Raises.foldl {α : Type} {f : State → α → State} (l : List α) (each : ∀ s a, a ∈ l → State.Raises s (f s a)) :
    ∀ s : State, s.Raises (l.foldl f s) := by
  intro s
  exact List.foldlRecOn l f (State.Raises.refl s) fun u hu a ha => hu.trans (each u a ha)

theorem State.Raises.withLine {s u : State} (h : s.Raises u) (l : Line) : s.Raises (u.withLine l) := h

theorem State.Raises.pollEnded {s u : State} (h : s.Raises u) : s.Raises u.pollEnded :=
  h.trans (.of_attention u.pollEnded_attention)

theorem State.Raises.derivePhase (s : State) (i : TowerIx) : s.Raises (s.derivePhase i) := by
  unfold State.derivePhase
  dsimp only
  split
  · refine .trans ?_ (.raise _ rfl)
    exact .of_attention rfl
  · exact .of_attention rfl

/-- A tower replaced, some occurrences, and the Phase derived. -/
theorem State.Raises.towerEvent (s : State) (i : TowerIx) (v : Tower) {os : List (SourceIx × Detail)}
    (fit : ∀ o ∈ os, detailFits o.1 o.2 = true) : s.Raises (((s.withTower i v).raiseAll os).derivePhase i) := by
  have raised : s.Raises ((s.withTower i v).raiseAll os) := ⟨os, fit, State.raiseAll_attention_congr os rfl⟩
  exact raised.trans (.derivePhase _ i)

theorem State.Raises.withTower_derivePhase (s : State) (i : TowerIx) (v : Tower) :
    s.Raises ((s.withTower i v).derivePhase i) := .towerEvent s i v (os := []) nofun

/-! ### The forms of the details (Table 10-1) -/

theorem newFaults_fit (t : TowerIx) : ∀ (ks ks' : List Key), ∀ o ∈ newFaults t ks ks', detailFits o.1 o.2 = true
  | k :: ks, k' :: ks' => by
    unfold newFaults
    split
    · exact List.forall_mem_cons.2 ⟨rfl, newFaults_fit t ks ks'⟩
    · exact newFaults_fit t ks ks'
  | [], _ => by simp [newFaults]
  | _ :: _, [] => by simp [newFaults]

theorem Tower.statusOccurrences_fit (w : Tower) (t : TowerIx) (g : GroupIx) (r : Group) (w' : Tower) :
    ∀ o ∈ w.statusOccurrences t g r w', detailFits o.1 o.2 = true := by
  intro o ho
  rcases List.mem_append.1 ho with returned | fault
  · split at returned
    · obtain rfl := List.mem_singleton.1 returned
      rfl
    · cases returned
  · exact newFaults_fit t _ _ o fault

theorem Tower.absence_fit (w : Tower) (t : TowerIx) (g : GroupIx) :
    ∀ o ∈ w.absence t g, detailFits o.1 o.2 = true := by
  unfold Tower.absence
  split
  · split
    · simp [detailFits]
    · simp
  · simp

theorem forwardDetail_fits (dest : Byte) : detailFits srcFwdOverflow (forwardDetail dest) = true := by
  unfold forwardDetail
  split <;> rfl

/-! ### The operations that raise -/

theorem State.Raises.trigger (s : State) : s.Raises s.trigger := by
  rcases s.trigger_cases with ⟨p, e⟩ | e <;> rw [e]
  · exact .of_attention rfl
  · exact .raise s rfl

theorem State.Raises.recomputeTower (s : State) (i : TowerIx) : s.Raises (s.recomputeTower i) := by
  rw [State.recomputeTower_eq]
  exact .withTower_derivePhase s i _

theorem State.Raises.applyStatus (s : State) (i : TowerIx) (g : GroupIx) (r : Group) (isLocal : Bool)
    (entries : List StatusEntry) : s.Raises (s.applyStatus i g r isLocal entries) :=
  .towerEvent s i _ (Tower.statusOccurrences_fit _ i g r _)

theorem State.Raises.applyExpiry (s : State) (i : TowerIx) (g : GroupIx) (judged : Tower) :
    s.Raises (s.applyExpiry i g judged) := .towerEvent s i _ (judged.absence_fit i g)

theorem State.Raises.breakLoad (s : State) (i : TowerIx) : s.Raises (s.breakLoad i) := by
  unfold State.breakLoad
  split
  · refine .trans ?_ (.raise _ rfl)
    exact .of_attention rfl
  · exact .refl s

theorem State.Raises.motionExpired (s : State) (i : TowerIx) (g : GroupIx) : s.Raises (s.motionExpired i g) := by
  simp only [State.motionExpired]
  split
  · exact .refl s
  · exact .towerEvent s i _ (newFaults_fit i _ _)

theorem State.Raises.applyReport (s : State) (i : TowerIx) (at' : Key → Option DensityOutcome) :
    s.Raises (s.applyReport i at') := by
  refine .towerEvent s i _ fun o ho => ?_
  obtain ⟨k, -, rfl⟩ := List.mem_map.1 ho
  rfl

theorem State.Raises.commitTower (keepTrims : Bool) (s : State) (i : TowerIx) :
    s.Raises (State.commitTower keepTrims s i) := by
  refine .trans ?_ (.derivePhase _ i)
  exact .of_attention rfl

theorem State.Raises.haltTower (s : State) (i : TowerIx) : s.Raises (s.haltTower i) := by
  simp only [State.haltTower]
  split
  · exact .withTower_derivePhase s i _
  · exact .refl s

theorem State.Raises.passthroughTower (s : State) (i : TowerIx) : s.Raises (s.passthroughTower i) := by
  simp only [State.passthroughTower]
  split
  · exact .withTower_derivePhase s i _
  · exact .refl s

theorem State.Raises.pollerAfterSetup (s : State) (enabled : Bool) : s.Raises (s.pollerAfterSetup enabled) := by
  have passed (u : State) (h : u = s ∨ u = s.passStale) : s.Raises u := by
    rcases h with rfl | rfl
    · exact .refl _
    · exact .of_attention s.passStale_attention
  simp only [State.pollerAfterSetup]
  split <;> split
  · exact (passed _ (.inr rfl)).trans (.trigger _)
  · exact (passed _ (.inl rfl)).trans (.trigger _)
  · exact passed _ (.inr rfl)
  · exact passed _ (.inl rfl)

theorem State.Raises.abandonRound (s : State) : s.Raises s.abandonRound := .of_attention rfl

theorem State.Raises.enterPassthrough (s : State) : s.Raises s.enterPassthrough := by
  unfold State.enterPassthrough
  refine .trans ?_ (.abandonRound _)
  refine .trans ?_ (.foldl allTowers (fun u i _ => .passthroughTower u i) _)
  exact .of_attention rfl

theorem State.Raises.changeMode (s : State) (new : Mode) : s.Raises (s.changeMode new) := by
  unfold State.changeMode
  split
  · exact .enterPassthrough s
  · unfold State.returnToNormal
    refine .trans ?_ (.trigger _)
    exact .of_attention rfl
  · exact .refl s
  · exact .refl s

/-! ### The rules of the kinds -/

theorem towerTrimRules_raises (s : State) (p : List Byte) : s.Raises (towerTrimRules s p).state := by
  simp only [towerTrimRules]
  split
  · exact .refl s
  · split
    · split
      · exact .refl s
      · refine .trans ?_ (.recomputeTower _ _)
        exact .of_attention rfl
    · exact .refl s

theorem profileBeginRules_raises (s : State) (p : List Byte) : s.Raises (profileBeginRules s p).state := by
  simp only [profileBeginRules]
  split
  · exact .refl s
  · rename_i i _
    split
    · split
      · split
        · exact .breakLoad s i
        · refine (State.Raises.breakLoad s i).trans ?_
          exact .of_attention rfl
      · exact .refl s
      · exact .refl s
    · exact .refl s

theorem profileZonesRules_raises (s : State) (p : List Byte) : s.Raises (profileZonesRules s p).state := by
  simp only [profileZonesRules]
  split
  · exact .refl s
  · split
    · exact .refl s
    · split
      · exact .refl s
      · split
        · exact .refl s
        · generalize placeZones _ _ _ = a
          split
          · refine .trans ?_ (.raise _ rfl)
            exact .of_attention rfl
          · exact .of_attention rfl

theorem profileEndRules_raises (s : State) (p : List Byte) : s.Raises (profileEndRules s p).state := by
  simp only [profileEndRules]
  split
  · exact .refl s
  · split
    · exact .refl s
    · split
      · refine .trans ?_ (.raise _ rfl)
        exact .of_attention rfl
      · exact .of_attention rfl

theorem jobCommitRules_raises (s : State) (p : List Byte) : s.Raises (jobCommitRules s p).state := by
  simp only [jobCommitRules]
  split
  · exact .refl s
  · split
    · exact .refl s
    · split
      · exact .refl s
      · split
        · exact .refl s
        · split
          · exact .refl s
          · exact .foldl _ (fun u i _ => .commitTower _ u i) s

theorem keyTrimRules_raises (s : State) (p : List Byte) : s.Raises (keyTrimRules s p).state := by
  simp only [keyTrimRules]
  split
  · exact .refl s
  · split
    · exact .refl s
    · split
      · exact .refl s
      · split
        · exact .refl s
        · refine .trans ?_ (.derivePhase _ _)
          exact .of_attention rfl

theorem densityReportRules_raises (s : State) (p : List Byte) : s.Raises (densityReportRules s p).state := by
  simp only [densityReportRules]
  split
  · exact .refl s
  · split
    · exact .refl s
    · split
      · exact .refl s
      · split
        · exact .refl s
        · exact .applyReport s _ _

theorem faultClearRules_raises (s : State) (p : List Byte) : s.Raises (faultClearRules s p).state := by
  simp only [faultClearRules]
  split
  · exact .refl s
  · split
    · exact .refl s
    · split
      · exact .refl s
      · exact .withTower_derivePhase s _ _

theorem towerSetupRules_raises (s : State) (p : List Byte) : s.Raises (towerSetupRules s p).state := by
  simp only [towerSetupRules]
  split
  · exact (State.Raises.withTower_derivePhase s _ _).trans (.pollerAfterSetup _ _)
  · exact .refl s
  · exact .refl s

theorem curveLoadRules_raises (s : State) (p : List Byte) : s.Raises (curveLoadRules s p).state := by
  simp only [curveLoadRules]
  split
  · exact .refl s
  · split
    · split
      · exact .refl s
      · refine .trans ?_ (.foldl _ (fun u i _ => .recomputeTower u i) _)
        exact .of_attention rfl
    · exact .refl s

theorem modeRules_raises (s : State) (p : List Byte) : s.Raises (modeRules s p).state := by
  simp only [modeRules]
  split
  · exact .refl s
  · exact .changeMode s _

/-- What the rules of a management kind do to the sources: occurrences, or the two telegrams of the Attention Unit. -/
theorem Manages.raises {c : Instr} {k : Kind} {rules : State → List Byte → Answer} (m : Manages c k rules)
    (s : State) (p : List Byte) : s.Raises (rules s p).state ∨ (c = .attentionConfig ∧ rules = attentionConfigRules) ∨
      (c = .attentionPoll ∧ rules = attentionPollRules) := by
  cases m with
  | attentionConfig => exact .inr (.inl ⟨rfl, rfl⟩)
  | attentionPoll => exact .inr (.inr ⟨rfl, rfl⟩)
  | towerSetup => exact .inl (towerSetupRules_raises s p)
  | sweepConfig =>
    refine .inl (.of_attention ?_)
    unfold sweepConfigRules
    split <;> rfl
  | curveLoad => exact .inl (curveLoadRules_raises s p)
  | pressState =>
    refine .inl (.of_attention ?_)
    unfold pressStateRules
    split <;> rfl
  | mode => exact .inl (modeRules_raises s p)
  | restart =>
    refine .inl (.of_attention ?_)
    unfold restartRules
    split <;> rfl
  | towerTrim => exact .inl (towerTrimRules_raises s p)
  | profileBegin => exact .inl (profileBeginRules_raises s p)
  | profileZones => exact .inl (profileZonesRules_raises s p)
  | profileEnd => exact .inl (profileEndRules_raises s p)
  | jobCommit => exact .inl (jobCommitRules_raises s p)
  | keyTrim => exact .inl (keyTrimRules_raises s p)
  | densityReport => exact .inl (densityReportRules_raises s p)
  | faultClear => exact .inl (faultClearRules_raises s p)

/-! ### Every effect -/

theorem State.Raises.purgeMoves (s : State) : s.Raises s.purgeMoves := by
  obtain ⟨sent, e⟩ := s.purgeMoves_eq
  rw [e]
  exact .of_attention rfl

theorem State.Raises.route (s : State) (t : Telegram) : s.Raises (s.route t) := by
  rcases s.route_cases t with e | ⟨_, _, _, e⟩ | e | ⟨_, _, e⟩ | ⟨_, _, e⟩ | ⟨-, e⟩ <;> rw [e]
  · exact .refl s
  · exact .of_attention rfl
  · exact .of_attention rfl
  · exact .of_attention rfl
  · refine .trans ?_ (.raise _ (forwardDetail_fits _))
    exact .of_attention rfl
  · exact .of_attention rfl

theorem State.restorationNotice_attention (s : State) : s.restorationNotice.attention = s.attention := by
  unfold State.restorationNotice
  split
  · rfl
  · split
    · rfl
    · split <;> rfl

theorem State.Raises.consoleArrival (s : State) (t : Telegram) : s.Raises (s.consoleArrival t) := by
  have placed : s.Raises (s.linkArrival.placeInbound t) := by
    unfold State.placeInbound
    split
    · exact .of_attention rfl
    · refine .trans ?_ (.raise _ rfl)
      exact .of_attention rfl
  simp only [State.consoleArrival]
  split
  · exact placed.trans (.of_attention (State.restorationNotice_attention _))
  · exact placed

theorem State.endForward_attention (s : State) (t : Telegram) : (s.endForward t).attention = s.attention := by
  simp only [State.endForward]
  split <;> rfl

/-- A WARM restart puts the sources at their defaults (R190). -/
theorem State.warmRestart_attention (s : State) (h : HoldLevel) : (s.warmRestart h).attention = Attention.fresh := by
  unfold State.warmRestart
  rw [State.startRound_attention]
  exact List.foldlRecOn (motive := fun u : State => u.attention = Attention.fresh) allTowers State.warmTower rfl
    fun _ hu _ _ => hu

/-- What an effect does to the sources: occurrences, the two telegrams of the Attention Unit, or a restart. -/
theorem Effect.raises {c : Instr} {s u : State} (e : Effect c s u) : s.Raises u ∨
    (c = .attentionConfig ∧ ∃ p, u.attention = (attentionConfigRules s p).state.attention) ∨
    (c = .attentionPoll ∧ ∃ p, u.attention = (attentionPollRules s p).state.attention) ∨
    (∃ h, (c = .warmRestart h ∨ c = .coldRestart h) ∧ u.attention = Attention.fresh) := by
  cases e with
  | managed m hand kind len =>
    rcases m.raises s _ with raised | ⟨e, rules⟩ | ⟨e, rules⟩
    · refine .inl (raised.trans ?_)
      exact .of_attention rfl
    · subst rules
      exact .inr (.inl ⟨e, _, rfl⟩)
    · subst rules
      exact .inr (.inr (.inl ⟨e, _, rfl⟩))
  | warmRestart due => exact .inr (.inr (.inr ⟨_, .inl rfl, s.warmRestart_attention _⟩))
  | coldRestart due => exact .inr (.inr (.inr ⟨_, .inr rfl, rfl⟩))
  | idle => exact .inl (.refl _)
  | answered hand => exact .inl (.of_attention rfl)
  | nresetAssert => exact .inl (.of_attention rfl)
  | consoleArrival valid => exact .inl (.consoleArrival s _)
  | consoleInvalid =>
    refine .inl (.trans ?_ (.raise _ rfl))
    exact .of_attention rfl
  | silenceExpired link =>
    refine .inl (.trans ?_ (.raise _ rfl))
    exact .of_attention rfl
  | transmitted queue => exact .inl (.of_attention rfl)
  | handlerTake inbound ready place =>
    refine .inl (.trans ?_ (.route (s.taken _ _) _))
    exact .of_attention rfl
  | idleExpiry => exact .inl (.breakLoad s _)
  | haltGrant free chosen => exact .inl (.of_attention rfl)
  | forwardGrant free chosen queue =>
    refine .inl (.of_attention ?_)
    unfold State.sendForward
    split <;> rfl
  | sweepGrant free chosen current record => exact .inl (.of_attention rfl)
  | moveGrant free chosen first lowest record => exact .inl (.of_attention rfl)
  | windowOpens line => exact .inl (.of_attention rfl)
  | abandonedSent line => exact .inl (.of_attention rfl)
  | broadcastSent line => exact .inl (.of_attention rfl)
  | haltSent line =>
    refine .inl (.trans ?_ (.foldl allTowers (fun u i _ => .haltTower u i) _))
    exact .of_attention rfl
  | warmHaltSent line => exact .inl (.of_attention rfl)
  | gapEnd line => exact .inl (.of_attention rfl)
  | moveAccepted line guard =>
    exact .inl ((State.Raises.withTower_derivePhase s _ _).withLine _)
  | moveRejected line guard =>
    exact .inl ((State.Raises.withTower_derivePhase s _ _).withLine _)
  | moveMissed line guard => exact .inl ((State.Raises.applyExpiry s _ _ _).withLine _)
  | moveStray line => exact .inl (.of_attention rfl)
  | statusTaken line guard =>
    exact .inl ((State.Raises.applyStatus s _ _ _ _ _).pollEnded.withLine _)
  | statusMissed line guard =>
    exact .inl ((State.Raises.applyExpiry s _ _ _).pollEnded.withLine _)
  | statusStray line => exact .inl (.of_attention (State.pollEnded_attention _))
  | forwardEnded line => exact .inl (.of_attention (s.endForward_attention _))
  | motionExpired => exact .inl (.motionExpired s _ _)
  | sweepExpired running =>
    simp only [State.sweepExpired, running]
    refine .inl (.trans ?_ (.trigger _))
    exact .of_attention rfl
  | sheetPulse =>
    refine .inl ?_
    simp only [State.pollerSheet]
    split
    · exact .of_attention rfl
    · split
      · refine .trans ?_ (.trigger _)
        exact .of_attention rfl
      · exact .of_attention rfl
  | holdAsserted hold =>
    refine .inl (.trans ?_ (.raise _ rfl))
    refine .trans ?_ (.purgeMoves _)
    exact .of_attention rfl
  | holdReleased hold =>
    refine .inl (.trans ?_ (.raise _ rfl))
    exact .of_attention rfl

end Sys2Proof.Machine
end

section
/-! PROOFS. The soundness of the outputs, the sources, the counters and the rotation order is kept (R1, R6, R16, R18,
R126, R133, R181, R182, Table 10-1). -/

namespace Sys2Proof.Machine

/-! ### The sources (R181, R182) -/

theorem State.source_congr {s t : State} (h : s.attention.sources = t.attention.sources) (i : SourceIx) :
    s.source i = t.source i := congrArg (·[i]) h

theorem State.raise_source (s : State) (i : SourceIx) (d : Detail) (j : SourceIx) :
    (s.raise i d).source j = if j = i then (s.source i).after d else s.source j := by
  have e : (s.raise i d).source j = (s.withSource i ((s.source i).after d)).source j :=
    State.source_congr (s.raise_sources i d) j
  rw [e, State.withSource_source]

theorem mergeCount_bounds {n : Nat} (h : n ≤ 255) : 1 ≤ mergeCount n ∧ mergeCount n ≤ 255 := by
  unfold mergeCount
  split <;> omega

/-- A source record as Table 10-1 gives it. -/
def SourceRecord.ok (r : SourceRecord) (i : SourceIx) : Prop :=
  r.priority ≤ 7 ∧ ∀ o ∈ r.pending, 1 ≤ o.count ∧ o.count ≤ 255 ∧ detailFits i o.detail = true

theorem State.attentionOk_iff {s : State} : s.attentionOk ↔ ∀ i, (s.source i).ok i := Iff.rfl

theorem SourceRecord.ok_after {r : SourceRecord} {i : SourceIx} (h : r.ok i) {d : Detail}
    (fit : detailFits i d = true) : (r.after d).ok i := by
  refine ⟨h.1, fun o ho => ?_⟩
  unfold SourceRecord.after at ho
  split at ho
  · obtain rfl := Option.some.inj ho
    exact ⟨le_rfl, Nat.le_of_ble_eq_true rfl, fit⟩
  · rename_i before pending
    obtain rfl := Option.some.inj ho
    obtain ⟨-, hi, form⟩ := h.2 before pending
    exact ⟨(mergeCount_bounds hi).1, (mergeCount_bounds hi).2, form⟩

theorem State.attentionOk_raise {s : State} (h : s.attentionOk) {i : SourceIx} {d : Detail}
    (fit : detailFits i d = true) : (s.raise i d).attentionOk := by
  refine State.attentionOk_iff.2 fun j => ?_
  rw [State.raise_source]
  split
  · subst_vars
    exact SourceRecord.ok_after (h _) fit
  · exact h j

theorem State.attentionOk_raiseAll (os : List (SourceIx × Detail)) (fit : ∀ o ∈ os, detailFits o.1 o.2 = true) :
    ∀ {s : State}, s.attentionOk → (s.raiseAll os).attentionOk := by
  induction os with
  | nil => exact id
  | cons o os ih =>
    obtain ⟨here, there⟩ := List.forall_mem_cons.1 fit
    exact fun h => ih there (State.attentionOk_raise h here)

theorem State.attentionOk_congr {s t : State} (e : t.attention.sources = s.attention.sources) (h : s.attentionOk) :
    t.attentionOk := by
  refine State.attentionOk_iff.2 fun i => ?_
  rw [State.source_congr e]
  exact h i

theorem State.attentionOk_raises {s u : State} (raised : s.Raises u) (h : s.attentionOk) : u.attentionOk := by
  obtain ⟨os, fit, e⟩ := raised
  exact State.attentionOk_congr (congrArg Attention.sources e) (State.attentionOk_raiseAll os fit h)

theorem State.attentionOk_withSource {s : State} (h : s.attentionOk) {i : SourceIx} {r : SourceRecord} (ok : r.ok i) :
    (s.withSource i r).attentionOk := by
  refine State.attentionOk_iff.2 fun j => ?_
  rw [State.withSource_source]
  split
  · subst_vars
    exact ok
  · exact h j

theorem attentionConfigRules_attentionOk {s : State} (h : s.attentionOk) (p : List Byte) :
    (attentionConfigRules s p).state.attentionOk := by
  simp only [attentionConfigRules]
  split
  · exact h
  · rename_i i _
    split
    · exact h
    · split
      · exact h
      · have stored : (s.withSource i ((s.source i).configured (byteAt p 1) (byteAt p 2 == 1))).attentionOk :=
          State.attentionOk_withSource h ⟨Nat.le_of_not_lt ‹_›, (h i).2⟩
        dsimp only
        split
        · exact State.attentionOk_congr rfl stored
        · exact stored

theorem attentionPollRules_attentionOk {s : State} (h : s.attentionOk) (p : List Byte) :
    (attentionPollRules s p).state.attentionOk := by
  simp only [attentionPollRules]
  split
  · exact h
  · rename_i i _
    split
    · exact h
    · exact State.attentionOk_withSource h ⟨(h i).1, nofun⟩

theorem State.attentionOk_fresh {s : State} (h : s.attention = Attention.fresh) : s.attentionOk := by
  have fresh : ∀ i : SourceIx, Attention.fresh.sources[i].priority ≤ 7 ∧ Attention.fresh.sources[i].pending = none := by
    decide
  refine State.attentionOk_iff.2 fun i => ?_
  rw [show s.source i = Attention.fresh.sources[i] from congrArg (fun a : Attention => a.sources[i]) h]
  exact ⟨(fresh i).1, fun o ho => nomatch (fresh i).2.symm.trans ho⟩

theorem Effect.attentionOk {c : Instr} {s u : State} (h : s.attentionOk) (e : Effect c s u) : u.attentionOk := by
  rcases e.raises with raised | ⟨-, p, e⟩ | ⟨-, p, e⟩ | ⟨level, -, e⟩
  · exact State.attentionOk_raises raised h
  · exact State.attentionOk_congr (congrArg Attention.sources e) (attentionConfigRules_attentionOk h p)
  · exact State.attentionOk_congr (congrArg Attention.sources e) (attentionPollRules_attentionOk h p)
  · exact State.attentionOk_fresh e

theorem State.countDown_attention (s : State) : s.countDown.attention = s.attention :=
  List.foldlRecOn (motive := fun u : State => u.attention = s.attention) allTowers State.tickTower rfl
    fun _ hu _ _ => hu

theorem State.tick_attention (s : State) : s.tick.attention = s.attention := by
  rcases s.tick_eq with ⟨e, -⟩ | ⟨e, -⟩ <;> rw [e]
  exact (State.withPending_attention _ _).trans s.countDown_attention

theorem attentionKept : Keeps State.attentionOk :=
  keeps_of_effects (fun _ _ h => h) (fun _ _ => State.attentionOk_fresh rfl)
    (fun s h => State.attentionOk_congr (congrArg Attention.sources s.tick_attention) h) (fun _ _ h _ => h)
    (fun _ h => State.attentionOk_congr rfl h) fun _ _ _ h _ e => e.attentionOk h

/-! ### The outputs, the counters and the rotation order -/

/-- LINEOK, the silence timer, DLDE, the Console Port's counters and the rotation order are sound. -/
def State.signalsOk (s : State) : Prop :=
  s.console.lineok = (s.console.link == .up && !s.nreset) ∧ s.console.silence.isSome = (s.console.link == .up) ∧
    s.drive.dlde = s.drive.line.isSending ∧ s.countersOk ∧ s.rotationOk

theorem State.signalsOk_of_bare {s t : State} (same : s.bare = t.bare) (h : t.signalsOk) : s.signalsOk := by
  obtain ⟨nreset, console, -, -, -, drive, -, -, -⟩ := State.bare_eq_iff.1 same
  unfold State.signalsOk State.countersOk State.rotationOk
  rw [nreset, console, drive]
  exact h

theorem State.signalsOk_raise {s : State} (h : s.signalsOk) (i : SourceIx) (d : Detail) : (s.raise i d).signalsOk :=
  State.signalsOk_of_bare (s.raise_bare i d) h

theorem State.signalsOk_withPoller {s : State} (h : s.signalsOk) (p : Poller) : (s.withPoller p).signalsOk := h

theorem State.signalsOk_trigger {s : State} (h : s.signalsOk) : s.trigger.signalsOk := by
  rcases s.trigger_cases with ⟨p, e⟩ | e <;> rw [e]
  · exact State.signalsOk_withPoller h p
  · exact State.signalsOk_raise h _ _

theorem State.signalsOk_pollEnded {s : State} (h : s.signalsOk) : s.pollEnded.signalsOk := by
  rw [State.pollEnded_eq]
  exact State.signalsOk_withPoller h _

/-- A change of the line takes DLDE along (R1, R126). -/
theorem State.signalsOk_withLine {s : State} (h : s.signalsOk) (l : Line) : (s.withLine l).signalsOk := by
  obtain ⟨lamp, silence, -, counters, rotation⟩ := h
  refine ⟨lamp, silence, ?_, counters, rotation⟩
  cases l <;> rfl

theorem satAdd_le {n : Nat} (h : n ≤ 65535) : satAdd n ≤ 65535 := by
  unfold satAdd
  split <;> omega

theorem rotate_perm {order : List TowerIx} (h : order.Perm allTowers) (t : TowerIx) : (rotate order t).Perm allTowers := by
  have mem : t ∈ order := h.mem_iff.2 (mem_allTowers t)
  refine List.Perm.trans ?_ h
  exact (List.perm_append_singleton t (order.erase t)).trans (List.perm_cons_erase mem).symm

theorem State.signalsOk_placeInbound {s : State} (h : s.signalsOk) (t : Telegram) : (s.placeInbound t).signalsOk := by
  obtain ⟨lamp, silence, dlde, ⟨checks, overruns, noRoutes⟩, rotation⟩ := h
  unfold State.placeInbound
  split
  · exact ⟨lamp, silence, dlde, ⟨checks, overruns, noRoutes⟩, rotation⟩
  · refine State.signalsOk_raise ?_ _ _
    exact ⟨lamp, silence, dlde, ⟨checks, satAdd_le overruns, noRoutes⟩, rotation⟩

theorem State.signalsOk_restorationNotice {s : State} (h : s.signalsOk) : s.restorationNotice.signalsOk := by
  unfold State.restorationNotice
  split
  · exact h
  · split
    · exact h
    · split
      · exact h
      · exact h

theorem State.signalsOk_consoleArrival {s : State} (h : s.signalsOk) (released : s.nreset = false) (t : Telegram) :
    (s.consoleArrival t).signalsOk := by
  obtain ⟨-, -, dlde, counters, rotation⟩ := h
  have linked : s.linkArrival.signalsOk := by
    refine ⟨?_, rfl, dlde, counters, rotation⟩
    show true = (LinkState.up == .up && !s.nreset)
    rw [released]
    rfl
  have placed := State.signalsOk_placeInbound linked t
  simp only [State.consoleArrival]
  split
  · exact State.signalsOk_restorationNotice placed
  · exact placed

theorem State.signalsOk_route {s : State} (h : s.signalsOk) (t : Telegram) : (s.route t).signalsOk := by
  rcases s.route_cases t with e | ⟨_, _, _, e⟩ | e | ⟨_, _, e⟩ | ⟨_, _, e⟩ | ⟨-, e⟩ <;> rw [e]
  · exact h
  · exact h
  · exact h
  · obtain ⟨lamp, silence, dlde, ⟨checks, overruns, noRoutes⟩, rotation⟩ := h
    exact ⟨lamp, silence, dlde, ⟨checks, overruns, satAdd_le noRoutes⟩, rotation⟩
  · refine State.signalsOk_raise ?_ _ _
    exact h
  · exact h

theorem State.signalsOk_endForward {s : State} (h : s.signalsOk) (t : Telegram) : (s.endForward t).signalsOk := by
  have ended : ((s.withConsole { s.console with reservedForward := false }).withLine .free).signalsOk := by
    refine State.signalsOk_withLine ?_ _
    exact h
  simp only [State.endForward]
  split
  · exact ended
  · exact ended

theorem State.signalsOk_purgeMoves {s : State} (h : s.signalsOk) : s.purgeMoves.signalsOk := by
  obtain ⟨sent, e⟩ := s.purgeMoves_eq
  rw [e]
  exact h

theorem State.signalsOk_sendForward {s : State} (h : s.signalsOk) (t : Telegram) : (s.sendForward t).signalsOk := by
  unfold State.sendForward
  split
  · exact State.signalsOk_withLine h _
  · refine State.signalsOk_withLine ?_ _
    exact h

theorem State.signalsOk_managed {c : Instr} {s : State} {k : Kind} {rules : State → List Byte → Answer}
    (h : s.signalsOk) (m : Manages c k rules) (p : List Byte) : (rules s p).state.signalsOk := by
  obtain ⟨nreset, console, -, drive, -⟩ := m.lines_kept s p
  unfold State.signalsOk State.countersOk State.rotationOk
  rw [nreset, console, drive]
  exact h

theorem State.signalsOk_powerOn (s : State) (h : HoldLevel) : (s.powerOn h).signalsOk :=
  ⟨rfl, rfl, rfl, ⟨Nat.zero_le _, Nat.zero_le _, Nat.zero_le _⟩, List.Perm.refl _⟩

@[simp] theorem Line.isSending_tick (l : Line) : l.tick.isSending = l.isSending := by cases l <;> rfl

@[simp] theorem Line.isSending_warm (l : Line) : l.warm.isSending = l.isSending := by cases l <;> rfl

theorem State.signalsOk_countDown {s : State} (h : s.signalsOk) : s.countDown.signalsOk := by
  obtain ⟨nreset, console, -, -, -, drive, -, -, -⟩ := State.bare_eq_iff.1 s.countDown_bare
  obtain ⟨lamp, silence, dlde, counters, rotation⟩ := h
  unfold State.signalsOk State.countersOk State.rotationOk
  rw [nreset, console, drive]
  refine ⟨lamp, ?_, ?_, counters, rotation⟩
  · rw [tickTimer, Option.isSome_map]
    exact silence
  · rw [Line.isSending_tick]
    exact dlde

theorem State.signalsOk_withPending {s : State} (h : s.signalsOk) (q : List Instr) : (s.withPending q).signalsOk := h

theorem State.signalsOk_tick {s : State} (h : s.signalsOk) : s.tick.signalsOk := by
  rcases s.tick_eq with ⟨e, -⟩ | ⟨e, -⟩ <;> rw [e]
  · exact h
  · exact State.signalsOk_withPending (State.signalsOk_countDown h) _

theorem State.signalsOk_warmRestart {s : State} (h : s.signalsOk) (level : HoldLevel) :
    (s.warmRestart level).signalsOk := by
  obtain ⟨lamp, silence, dlde, counters, rotation⟩ := h
  have warmed : (s.warmBlocks level).signalsOk :=
    ⟨lamp, silence, dlde.trans (s.drive.line.isSending_warm).symm, counters, rotation⟩
  exact State.signalsOk_of_bare (s.warmRestart_bare level) (State.signalsOk_withPoller warmed _)

theorem Effect.signalsOk {c : Instr} {s u : State} (h : s.signalsOk) (released : s.nreset = false)
    (e : Effect c s u) : u.signalsOk := by
  cases e with
  | idle => exact h
  | managed m hand kind len =>
    have ruled := State.signalsOk_managed h m
    exact ruled _
  | answered hand => exact h
  | nresetAssert =>
    obtain ⟨-, silence, dlde, counters, rotation⟩ := State.signalsOk_withLine h s.drive.line.cutOff
    exact ⟨(Bool.and_false _).symm, silence, dlde, counters, rotation⟩
  | consoleArrival valid => exact State.signalsOk_consoleArrival h released _
  | consoleInvalid =>
    obtain ⟨lamp, silence, dlde, ⟨checks, overruns, noRoutes⟩, rotation⟩ := h
    refine State.signalsOk_raise ?_ _ _
    exact ⟨lamp, silence, dlde, ⟨satAdd_le checks, overruns, noRoutes⟩, rotation⟩
  | silenceExpired link =>
    obtain ⟨-, -, dlde, counters, rotation⟩ := h
    refine State.signalsOk_raise ?_ _ _
    exact ⟨rfl, rfl, dlde, counters, rotation⟩
  | transmitted queue => exact h
  | handlerTake inbound ready place =>
    refine State.signalsOk_route ?_ _
    exact h
  | idleExpiry => exact State.signalsOk_of_bare (s.breakLoad_bare _) h
  | warmRestart due => exact State.signalsOk_warmRestart h _
  | coldRestart due => exact State.signalsOk_powerOn s _
  | haltGrant free chosen => exact State.signalsOk_withLine h _
  | forwardGrant free chosen queue =>
    refine State.signalsOk_sendForward ?_ _
    exact h
  | sweepGrant free chosen current record =>
    refine State.signalsOk_withLine ?_ _
    exact h
  | moveGrant free chosen first lowest record =>
    obtain ⟨lamp, silence, dlde, counters, rotation⟩ := h
    refine State.signalsOk_withLine ?_ _
    exact ⟨lamp, silence, dlde, counters, rotate_perm rotation _⟩
  | windowOpens line => exact State.signalsOk_withLine h _
  | abandonedSent line => exact State.signalsOk_withLine h _
  | broadcastSent line => exact State.signalsOk_withLine h _
  | haltSent line =>
    refine State.signalsOk_of_bare (State.haltEffects_bare _) ?_
    exact State.signalsOk_withLine h (.gap _)
  | warmHaltSent line => exact State.signalsOk_withLine h _
  | gapEnd line => exact State.signalsOk_withLine h _
  | moveAccepted line guard =>
    refine State.signalsOk_withLine (State.signalsOk_of_bare (State.derivePhase_bare _ _) ?_) _
    exact h
  | moveRejected line guard =>
    refine State.signalsOk_withLine (State.signalsOk_of_bare (State.derivePhase_bare _ _) ?_) _
    exact h
  | moveMissed line guard =>
    exact State.signalsOk_withLine (State.signalsOk_of_bare (State.applyExpiry_bare _ _ _ _) h) _
  | moveStray line => exact State.signalsOk_withLine h _
  | statusTaken line guard =>
    refine State.signalsOk_withLine (State.signalsOk_pollEnded ?_) _
    exact State.signalsOk_of_bare (State.applyStatus_bare _ _ _ _ _ _) h
  | statusMissed line guard =>
    refine State.signalsOk_withLine (State.signalsOk_pollEnded ?_) _
    exact State.signalsOk_of_bare (State.applyExpiry_bare _ _ _ _) h
  | statusStray line => exact State.signalsOk_withLine (State.signalsOk_pollEnded h) _
  | forwardEnded line => exact State.signalsOk_endForward h _
  | motionExpired => exact State.signalsOk_of_bare (s.motionExpired_bare _ _) h
  | sweepExpired running =>
    simp only [State.sweepExpired, running]
    exact State.signalsOk_trigger (State.signalsOk_withPoller h _)
  | sheetPulse =>
    have pulsed : (s.withSheets (s.sheetCount + 1)).signalsOk := h
    simp only [State.pollerSheet]
    split
    · exact pulsed
    · split
      · exact State.signalsOk_trigger (State.signalsOk_withPoller pulsed _)
      · exact State.signalsOk_withPoller pulsed _
  | holdAsserted hold =>
    refine State.signalsOk_raise (State.signalsOk_purgeMoves ?_) _ _
    exact h
  | holdReleased hold =>
    refine State.signalsOk_raise ?_ _ _
    exact h

theorem signalsKept : Keeps State.signalsOk :=
  keeps_of_effects (fun _ _ h => State.signalsOk_withPending h _) State.signalsOk_powerOn
    (fun _ => State.signalsOk_tick) (fun _ _ h _ => h) (fun _ h => h) fun _ _ _ h released e => e.signalsOk h released

/-! ### No judgement is left over (R183) -/

theorem step_due {s n : State} (h : s.attention.due = []) (e : step s = .next n) : n.attention.due = [] := by
  rcases step_cases e with ⟨-, rfl⟩ | ⟨c, rest, -, e⟩
  · rw [State.tick_attention]
    exact h
  · rcases exec_cases e with ⟨level, -, rfl | rfl⟩ | rfl | ⟨-, u, -, rfl⟩
    · rfl
    · exact h
    · exact h
    · exact State.judgeNotices_due u

/-- Settles O53: the sources by the occurrences of an event, the outputs, counters and rotation order by each effect,
and the judgements by the end of the event. -/
theorem itemsKept : Obligations.ItemsKept := by
  rintro s n ⟨⟨lamp, silence, dlde, due⟩, attention, counters, rotation⟩ e
  obtain ⟨lamp', silence', dlde', counters', rotation'⟩ :=
    signalsKept s n ⟨lamp, silence, dlde, counters, rotation⟩ e
  exact ⟨⟨lamp', silence', dlde', step_due due e⟩, attentionKept s n attention e, counters', rotation'⟩

end Sys2Proof.Machine
end

section
/-! PROOFS. The Readback Poller's items (Table 8-1, R148 to R158): what a round, a trigger and a configuration leave,
and from that every step. -/

namespace Sys2Proof.Machine

/-! ### Table 8-1 as a predicate of the Poller and the Mode -/

/-- The ranges of Table 8-1 and the relations of its items. -/
structure Poller.Sound (p : Poller) (mode : Mode) : Prop where
  interval : 20 ≤ p.interval ∧ p.interval ≤ 2000
  intervalPending : ∀ n ∈ p.intervalPending, 20 ≤ n ∧ n ≤ 2000 ∧ p.source = .timer
  divider : 1 ≤ p.divider ∧ p.divider ≤ 64
  count : p.dividerCount ≤ 63
  countTimer : p.source = .timer → p.dividerCount = 0
  timer : p.sweepTimer.isSome = (p.source == .timer)
  number : p.roundNumber ≤ 65535
  latch : p.roundPending = true → p.roundActive = true
  hand : p.inHand = true → p.roundActive = true
  cursor : p.roundActive = true → p.cursor < p.pollList.length
  idle : p.roundActive = false → p.pollList = [] ∧ p.cursor = 0
  mode : mode = .passthrough → p.roundActive = false

theorem State.pollerOk_iff {s : State} : s.pollerOk ↔ s.poller.Sound s.press.mode := by
  constructor
  · rintro ⟨h1, h2, h3, h4, h5, h6, h7, h8, h9, h10, h11, h12⟩
    exact ⟨h1, h2, h3, h4, h5, h6, h7, h8, h9, h10, h11, h12⟩
  · rintro ⟨h1, h2, h3, h4, h5, h6, h7, h8, h9, h10, h11, h12⟩
    exact ⟨h1, h2, h3, h4, h5, h6, h7, h8, h9, h10, h11, h12⟩

/-- A Poller without a round is sound in every Mode (R153, R158). -/
theorem Poller.Sound.withoutRound {p : Poller} {mode : Mode} (h : p.Sound mode) (mode' : Mode) :
    p.withoutRound.Sound mode' :=
  { h with
    latch := nofun, hand := nofun, cursor := nofun, idle := fun _ => ⟨rfl, rfl⟩, mode := fun _ => rfl }

theorem nextRound_le (n : Nat) : nextRound n ≤ 65535 := by
  unfold nextRound
  omega

/-- A round that starts is active exactly when its list has an entry, and its Cursor is on the first (R154, R155). -/
theorem Poller.Sound.startRound {s : State} (h : s.poller.Sound .normal) : s.startRound.poller.Sound .normal := by
  have active : s.startRound.poller.roundActive = !s.startRound.poller.pollList.isEmpty := rfl
  refine { h with number := nextRound_le _, latch := nofun, hand := nofun, cursor := ?_, idle := ?_, mode := nofun }
  · rw [active]
    cases s.startRound.poller.pollList with
    | nil => exact nofun
    | cons e es => exact fun _ => Nat.succ_pos _
  · rw [active]
    cases s.startRound.poller.pollList with
    | nil => exact fun _ => ⟨rfl, rfl⟩
    | cons e es => exact nofun

/-! ### Rounds and triggers (R151 to R158) -/

theorem State.pollerOk_of_bare {s t : State} (same : s.bare = t.bare) (h : t.pollerOk) : s.pollerOk := by
  obtain ⟨-, -, -, -, -, -, poller, press, -⟩ := State.bare_eq_iff.1 same
  rw [State.pollerOk_iff, poller, press]
  exact State.pollerOk_iff.1 h

theorem State.pollerOk_raise {s : State} (h : s.pollerOk) (i : SourceIx) (d : Detail) : (s.raise i d).pollerOk :=
  State.pollerOk_of_bare (s.raise_bare i d) h

theorem State.pollerOk_withLine {s : State} (h : s.pollerOk) (l : Line) : (s.withLine l).pollerOk := h

theorem State.pollerOk_withPending {s : State} (h : s.pollerOk) (q : List Instr) : (s.withPending q).pollerOk := h

theorem State.pollerOk_startRound {s : State} (h : s.pollerOk) (normal : s.press.mode = .normal) :
    s.startRound.pollerOk := by
  rw [State.pollerOk_iff, show s.startRound.press = s.press from rfl, normal]
  exact Poller.Sound.startRound (normal ▸ State.pollerOk_iff.1 h)

theorem State.pollerOk_abandonRound {s : State} (h : s.pollerOk) : s.abandonRound.pollerOk :=
  State.pollerOk_iff.2 ((State.pollerOk_iff.1 h).withoutRound _)

theorem State.pollerOk_trigger {s : State} (h : s.pollerOk) : s.trigger.pollerOk := by
  unfold State.trigger
  split
  · exact h
  · rename_i normal
    split
    · rename_i active
      split
      · exact State.pollerOk_raise h _ _
      · refine State.pollerOk_iff.2 { State.pollerOk_iff.1 h with latch := fun _ => active }
    · exact State.pollerOk_startRound h normal

/-- The Mode is NORMAL while a round is active (R153, R174). -/
theorem Poller.Sound.normal {p : Poller} {mode : Mode} (h : p.Sound mode) (active : p.roundActive = true) :
    mode = .normal := by
  cases mode with
  | normal => rfl
  | passthrough => exact absurd active (by rw [h.mode rfl]; exact Bool.false_ne_true)

theorem State.pollerOk_endRound {s : State} (h : s.pollerOk) : s.endRound.pollerOk := by
  have ended := State.pollerOk_abandonRound h
  unfold State.endRound
  split
  · rename_i latched
    have sound := State.pollerOk_iff.1 h
    exact State.pollerOk_startRound ended (sound.normal (sound.latch latched))
  · exact ended

theorem State.passStale_cases (s : State) : s.passStale = s.endRound ∨
    ∃ n, n < s.poller.pollList.length ∧ s.passStale = s.withPoller { s.poller with cursor := n } := by
  simp only [State.passStale]
  split
  · exact .inr ⟨_, ‹_›, rfl⟩
  · exact .inl rfl

theorem State.pollerOk_passStale {s : State} (h : s.pollerOk) (active : s.poller.roundActive = true) :
    s.passStale.pollerOk := by
  rcases s.passStale_cases with e | ⟨n, inList, e⟩ <;> rw [e]
  · exact State.pollerOk_endRound h
  · refine State.pollerOk_iff.2 { State.pollerOk_iff.1 h with cursor := fun _ => inList, idle := fun ended => ?_ }
    exact absurd active (by rw [show s.poller.roundActive = false from ended]; exact Bool.false_ne_true)

/-- The end of a poll looks at the Cursor only after it has advanced: the entry it leaves may be past the list, and then
the round ends (R156, R158). -/
theorem State.pollerOk_pollEnded {s : State} (h : s.pollerOk) : s.pollEnded.pollerOk := by
  unfold State.pollEnded
  split
  · rename_i hand
    have sound := State.pollerOk_iff.1 h
    have active := sound.hand hand
    obtain ⟨v, hv⟩ : ∃ v, v = s.withPoller { s.poller with cursor := s.poller.cursor + 1, inHand := false } := ⟨_, rfl⟩
    rw [← hv]
    have ended : v.abandonRound.pollerOk := by
      rw [hv]
      exact State.pollerOk_iff.2 (sound.withoutRound s.press.mode)
    rcases v.passStale_cases with e | ⟨n, inList, e⟩ <;> rw [e]
    · unfold State.endRound
      split
      · refine State.pollerOk_startRound ended ?_
        rw [hv]
        exact sound.normal active
      · exact ended
    · rw [hv] at inList ⊢
      refine State.pollerOk_iff.2 { sound with hand := nofun, cursor := fun _ => inList, idle := fun ended => ?_ }
      exact absurd active (by rw [show s.poller.roundActive = false from ended]; exact Bool.false_ne_true)
  · exact h

/-! ### The commands of the Poller (R147 to R150, R152) -/

theorem State.pollerOk_pollerAfterSetup {s : State} (h : s.pollerOk) (enabled : Bool) :
    (s.pollerAfterSetup enabled).pollerOk := by
  have passed : (if s.poller.roundActive && !s.poller.inHand then s.passStale else s).pollerOk := by
    split
    · rename_i both
      exact State.pollerOk_passStale h (Bool.and_eq_true_iff.1 both).1
    · exact h
  unfold State.pollerAfterSetup
  dsimp only
  split
  · exact State.pollerOk_trigger passed
  · exact passed

theorem clampNat_bounds {lo hi : Nat} (h : lo ≤ hi) (n : Nat) : lo ≤ clampNat lo hi n ∧ clampNat lo hi n ≤ hi := by
  rw [clampNat_eq_max_min h]
  omega

theorem Poller.Sound.configured {p : Poller} {mode : Mode} (h : p.Sound mode) (source : SweepSource) {interval divider : Nat}
    (inRange : 20 ≤ interval ∧ interval ≤ 2000) (inRange' : 1 ≤ divider ∧ divider ≤ 64) :
    (p.configured source interval divider).Sound mode := by
  unfold Poller.configured
  split
  · rename_i timer
    refine { h with divider := inRange', intervalPending := fun n hn => ?_ }
    split at hn
    · cases hn
    · obtain rfl := Option.some.inj hn
      exact ⟨inRange.1, inRange.2, timer⟩
  · rename_i sheet
    refine { h with interval := inRange, divider := inRange' }
  · refine { h with
      interval := inRange, divider := inRange', intervalPending := nofun, count := Nat.zero_le _, countTimer := fun _ => rfl,
      timer := rfl }
  · refine { h with
      interval := inRange, divider := inRange', intervalPending := nofun, count := Nat.zero_le _, countTimer := nofun,
      timer := rfl }

theorem sweepConfigRules_pollerOk {s : State} (h : s.pollerOk) (p : List Byte) :
    (sweepConfigRules s p).state.pollerOk := by
  unfold sweepConfigRules
  split
  · exact h
  · exact State.pollerOk_iff.2
      ((State.pollerOk_iff.1 h).configured _ (clampNat_bounds (by decide) _) (clampNat_bounds (by decide) _))

theorem towerSetupRules_pollerOk {s : State} (h : s.pollerOk) (p : List Byte) :
    (towerSetupRules s p).state.pollerOk := by
  unfold towerSetupRules
  split
  · refine State.pollerOk_pollerAfterSetup (State.pollerOk_of_bare (State.derivePhase_bare _ _) ?_) _
    exact h
  · exact h
  · exact h

theorem State.pollerOk_changeMode {s : State} (h : s.pollerOk) (new : Mode) : (s.changeMode new).pollerOk := by
  unfold State.changeMode
  split
  · have same := State.foldl_bare State.passthroughTower_bare allTowers (s.withPress { s.press with mode := .passthrough })
    obtain ⟨-, -, -, -, -, -, poller, press, -⟩ := State.bare_eq_iff.1 same
    unfold State.enterPassthrough State.abandonRound
    rw [State.pollerOk_iff, State.withPoller_poller, State.withPoller_press, poller, press]
    exact (State.pollerOk_iff.1 h).withoutRound .passthrough
  · rename_i was
    have idle := (State.pollerOk_iff.1 h).mode was
    refine State.pollerOk_trigger (State.pollerOk_iff.2 { State.pollerOk_iff.1 h with mode := fun _ => idle })
  · exact h
  · exact h

theorem State.pollerOk_managed {c : Instr} {s : State} {k : Kind} {rules : State → List Byte → Answer}
    (h : s.pollerOk) (m : Manages c k rules) (p : List Byte) : (rules s p).state.pollerOk := by
  rcases m.bare_cases s p with e | ⟨setup | sweep, e⟩ | ⟨-, e⟩ | ⟨-, q, e⟩ | ⟨mode, q, e⟩ | ⟨-, q, e⟩
  · exact State.pollerOk_of_bare e h
  · subst setup
    cases m
    exact towerSetupRules_pollerOk h p
  · subst sweep
    cases m
    exact sweepConfigRules_pollerOk h p
  · refine State.pollerOk_of_bare e ?_
    exact h
  · refine State.pollerOk_of_bare e ?_
    exact h
  · subst mode
    cases m
    unfold modeRules
    split
    · exact h
    · exact State.pollerOk_changeMode h _
  · rw [e]
    exact h

theorem State.pollerOk_sweepExpired {s : State} (h : s.pollerOk) : s.sweepExpired.pollerOk := by
  have sound := State.pollerOk_iff.1 h
  simp only [State.sweepExpired]
  cases running : s.poller.sweepTimer with
  | none => exact h
  | some n =>
    have timer : s.poller.source = .timer := by
      have isTimer := sound.timer
      rw [running] at isTimer
      exact eq_of_beq isTimer.symm
    have loaded : 20 ≤ s.poller.intervalPending.getD s.poller.interval ∧
        s.poller.intervalPending.getD s.poller.interval ≤ 2000 := by
      cases pending : s.poller.intervalPending with
      | none => exact sound.interval
      | some m =>
        obtain ⟨lo, hi, -⟩ := sound.intervalPending m pending
        exact ⟨lo, hi⟩
    refine State.pollerOk_trigger (State.pollerOk_iff.2 { sound with
      interval := loaded, intervalPending := nofun, timer := ?_ })
    show true = (s.poller.source == .timer)
    rw [timer]
    rfl

theorem State.pollerOk_pollerSheet {s : State} (h : s.pollerOk) : s.pollerSheet.pollerOk := by
  have sound := State.pollerOk_iff.1 h
  unfold State.pollerSheet
  split
  · exact h
  · rename_i sheet
    dsimp only
    split
    · exact State.pollerOk_trigger (State.pollerOk_iff.2 { sound with
        count := Nat.zero_le _, countTimer := fun _ => rfl })
    · rename_i fewer
      refine State.pollerOk_iff.2 { sound with count := ?_, countTimer := fun timer => ?_ }
      · obtain ⟨-, hi⟩ := sound.divider
        show s.poller.dividerCount + 1 ≤ 63
        omega
      · exact absurd (timer.symm.trans sheet) nofun

/-! ### Every step -/

theorem State.pollerOk_powerOn (s : State) (h : HoldLevel) : (s.powerOn h).pollerOk :=
  State.pollerOk_iff.2
    { interval := (by decide : 20 ≤ 200 ∧ 200 ≤ 2000), intervalPending := nofun, divider := (by decide : 1 ≤ 8 ∧ 8 ≤ 64), count := Nat.zero_le _,
      countTimer := fun _ => rfl, timer := rfl, number := Nat.zero_le _, latch := nofun, hand := nofun, cursor := nofun,
      idle := fun _ => ⟨rfl, rfl⟩, mode := fun _ => rfl }

theorem State.pollerOk_warmRestart {s : State} (h : s.pollerOk) (level : HoldLevel) :
    (s.warmRestart level).pollerOk := by
  have warmed : (s.warmBlocks level).pollerOk := State.pollerOk_iff.2 ((State.pollerOk_iff.1 h).withoutRound .normal)
  have same := State.foldl_bare State.warmTower_bare allTowers (s.warmBlocks level)
  have normal := congrArg Press.mode (State.bare_eq_iff.1 same).2.2.2.2.2.2.2.1
  exact State.pollerOk_startRound (State.pollerOk_of_bare same warmed) normal

theorem State.pollerOk_countDown {s : State} (h : s.pollerOk) : s.countDown.pollerOk := by
  obtain ⟨-, -, -, -, -, -, poller, press, -⟩ := State.bare_eq_iff.1 s.countDown_bare
  rw [State.pollerOk_iff, poller, press]
  exact { State.pollerOk_iff.1 h with timer := Option.isSome_map.trans (State.pollerOk_iff.1 h).timer }

theorem State.pollerOk_tick {s : State} (h : s.pollerOk) : s.tick.pollerOk := by
  rcases s.tick_eq with ⟨e, -⟩ | ⟨e, -⟩ <;> rw [e]
  · exact h
  · exact State.pollerOk_withPending (State.pollerOk_countDown h) _

/-- The console line's operations leave the Poller and the Mode alone. -/
theorem State.consoleArrival_poller (s : State) (t : Telegram) :
    (s.consoleArrival t).poller = s.poller ∧ (s.consoleArrival t).press = s.press := by
  have placed : (s.linkArrival.placeInbound t).poller = s.poller ∧ (s.linkArrival.placeInbound t).press = s.press := by
    unfold State.placeInbound
    split
    · exact ⟨rfl, rfl⟩
    · rw [State.raise_eq_withAttention]
      exact ⟨rfl, rfl⟩
  have notice (u : State) : u.restorationNotice.poller = u.poller ∧ u.restorationNotice.press = u.press := by
    unfold State.restorationNotice
    split
    · exact ⟨rfl, rfl⟩
    · split
      · exact ⟨rfl, rfl⟩
      · split <;> exact ⟨rfl, rfl⟩
  simp only [State.consoleArrival]
  split
  · rw [(notice _).1, (notice _).2]
    exact placed
  · exact placed

theorem State.route_poller (s : State) (t : Telegram) :
    (s.route t).poller = s.poller ∧ (s.route t).press = s.press := by
  rcases s.route_cases t with e | ⟨_, _, _, e⟩ | e | ⟨_, _, e⟩ | ⟨_, _, e⟩ | ⟨-, e⟩ <;> rw [e]
  · exact ⟨rfl, rfl⟩
  · exact ⟨rfl, rfl⟩
  · exact ⟨rfl, rfl⟩
  · exact ⟨rfl, rfl⟩
  · rw [State.raise_eq_withAttention]
    exact ⟨rfl, rfl⟩
  · exact ⟨rfl, rfl⟩

theorem State.pollerOk_congr {s u : State} (same : u.poller = s.poller ∧ u.press = s.press) (h : s.pollerOk) :
    u.pollerOk := by
  rw [State.pollerOk_iff, same.1, same.2]
  exact State.pollerOk_iff.1 h

theorem Poller.current_active {p : Poller} {e : PollEntry} (h : p.current = some e) : p.roundActive = true := by
  unfold Poller.current at h
  split at h
  · assumption
  · cases h

theorem Effect.pollerOk {c : Instr} {s u : State} (h : s.pollerOk) (e : Effect c s u) : u.pollerOk := by
  cases e with
  | idle => exact h
  | managed m hand kind len =>
    have ruled := State.pollerOk_managed h m
    exact ruled _
  | answered hand => exact h
  | nresetAssert => exact h
  | consoleArrival valid => exact State.pollerOk_congr (s.consoleArrival_poller _) h
  | consoleInvalid =>
    refine State.pollerOk_raise ?_ _ _
    exact h
  | silenceExpired link =>
    refine State.pollerOk_raise ?_ _ _
    exact h
  | transmitted queue => exact h
  | handlerTake inbound ready place =>
    refine State.pollerOk_congr (State.route_poller _ _) ?_
    exact h
  | idleExpiry => exact State.pollerOk_of_bare (s.breakLoad_bare _) h
  | warmRestart due => exact State.pollerOk_warmRestart h _
  | coldRestart due => exact State.pollerOk_powerOn s _
  | haltGrant free chosen => exact h
  | forwardGrant free chosen queue =>
    unfold State.sendForward
    split <;> exact h
  | sweepGrant free chosen current record =>
    exact State.pollerOk_iff.2 { State.pollerOk_iff.1 h with hand := fun _ => Poller.current_active current }
  | moveGrant free chosen first lowest record => exact h
  | windowOpens line => exact h
  | abandonedSent line => exact h
  | broadcastSent line => exact h
  | haltSent line =>
    refine State.pollerOk_of_bare (State.haltEffects_bare _) ?_
    exact h
  | warmHaltSent line => exact h
  | gapEnd line => exact h
  | moveAccepted line guard =>
    refine State.pollerOk_withLine (State.pollerOk_of_bare (State.derivePhase_bare _ _) ?_) _
    exact h
  | moveRejected line guard =>
    refine State.pollerOk_withLine (State.pollerOk_of_bare (State.derivePhase_bare _ _) ?_) _
    exact h
  | moveMissed line guard =>
    exact State.pollerOk_withLine (State.pollerOk_of_bare (State.applyExpiry_bare _ _ _ _) h) _
  | moveStray line => exact h
  | statusTaken line guard =>
    refine State.pollerOk_withLine (State.pollerOk_pollEnded ?_) _
    exact State.pollerOk_of_bare (State.applyStatus_bare _ _ _ _ _ _) h
  | statusMissed line guard =>
    refine State.pollerOk_withLine (State.pollerOk_pollEnded ?_) _
    exact State.pollerOk_of_bare (State.applyExpiry_bare _ _ _ _) h
  | statusStray line => exact State.pollerOk_withLine (State.pollerOk_pollEnded h) _
  | forwardEnded line =>
    simp only [State.endForward]
    split <;> exact h
  | motionExpired => exact State.pollerOk_of_bare (s.motionExpired_bare _ _) h
  | sweepExpired running => exact State.pollerOk_sweepExpired h
  | sheetPulse =>
    refine State.pollerOk_pollerSheet ?_
    exact h
  | holdAsserted hold =>
    obtain ⟨sent, e⟩ := State.purgeMoves_eq
      ((s.withPress { s.press with hold := .asserted }).withDrive { s.drive with haltPending := true })
    refine State.pollerOk_raise ?_ _ _
    rw [e]
    exact h
  | holdReleased hold =>
    refine State.pollerOk_raise ?_ _ _
    exact h

/-- Settles O54: the operations of the Poller keep Table 8-1, and no other operation touches the Poller. -/
theorem pollerKept : Obligations.PollerKept :=
  keeps_of_effects (fun _ _ h => State.pollerOk_withPending h _) State.pollerOk_powerOn (fun _ => State.pollerOk_tick)
    (fun _ _ h _ => h) (fun _ h => h) fun _ _ _ h _ e => e.pollerOk h

end Sys2Proof.Machine
end

section
/-! PROOFS. One event on several towers: an operation that replaces a tower and derives its Phase, made on a list of towers
in turn, is one replacement of the towers and the TOWER_READY occurrences of those that enter READY, in that order. -/

namespace Sys2Proof.Machine

/-- A tower with the Phase that R29 derives. -/
def Tower.derived (w : Tower) : Tower := { w with phase := w.derivedPhase }

/-- The operation `f` on a tower of which `applies` holds replaces it by `new` and derives its Phase; it looks at no other
tower and at no source. -/
structure ReworksTower (f : State → TowerIx → State) (applies : Tower → Bool) (new : State → TowerIx → Tower) : Prop where
  eq : ∀ s i, f s i = if applies (s.tower i) then (s.withTower i (new s i)).derivePhase i else s
  phase : ∀ s i, (new s i).phase = (s.tower i).phase
  sees : ∀ {s u : State} {i}, s.bare = u.bare → s.tower i = u.tower i → new s i = new u i

/-- A tower after such an operation on the towers of a list. -/
def State.reworked (s : State) (applies : Tower → Bool) (new : State → TowerIx → Tower) (ts : List TowerIx) (i : TowerIx) :
    Tower :=
  if i ∈ ts ∧ applies (s.tower i) = true then (new s i).derived else s.tower i

/-- TOWER_READY for each tower of a list that is READY and was not. -/
def readyOccurrences (before after : TowerIx → Tower) (ts : List TowerIx) : List (SourceIx × Detail) :=
  (ts.filter fun i => (after i).phase = .ready ∧ (before i).phase ≠ .ready).map fun i => (srcTowerReady, .tower i)

theorem readyOccurrences_congr {before before' after after' : TowerIx → Tower} {ts : List TowerIx}
    (same : ∀ i ∈ ts, before i = before' i ∧ after i = after' i) :
    readyOccurrences before after ts = readyOccurrences before' after' ts := by
  unfold readyOccurrences
  congr 1
  refine List.filter_congr fun i hi => ?_
  rw [(same i hi).1, (same i hi).2]

/-- The towers of a state replaced. -/
def State.withTowers (s : State) (v : TowerIx → Tower) : State := { s with towers := Vector.ofFn v }

@[simp] theorem State.withTowers_tower (s : State) (v : TowerIx → Tower) (i : TowerIx) : (s.withTowers v).tower i = v i := by
  simp [State.withTowers, State.tower]

@[simp] theorem State.withTowers_bare (s : State) (v : TowerIx → Tower) : (s.withTowers v).bare = s.bare := rfl

theorem State.withTowers_of_tower (s : State) : s.withTowers s.tower = s := by
  have same : Vector.ofFn s.tower = s.towers := Vector.ext fun i hi => by simp [State.tower]
  simp [State.withTowers, same]

theorem State.withTowers_raiseAll (s : State) (os : List (SourceIx × Detail)) (v : TowerIx → Tower) :
    (s.raiseAll os).withTowers v = (s.withTowers v).raiseAll os := by
  induction os generalizing s with
  | nil => rfl
  | cons o os ih =>
    rw [State.raiseAll_cons, State.raiseAll_cons, ih]
    congr 1
    unfold State.raise
    rw [show (s.withTowers v).source o.1 = s.source o.1 from rfl]
    split <;> rfl

theorem ReworksTower.step {f : State → TowerIx → State} {applies : Tower → Bool} {new : State → TowerIx → Tower}
    (h : ReworksTower f applies new) (s : State) (i : TowerIx) :
    f s i = (s.withTowers (s.reworked applies new [i])).raiseAll
      (readyOccurrences s.tower (s.reworked applies new [i]) [i]) := by
  rw [h.eq]
  split
  · rename_i does
    have self : s.reworked applies new [i] i = (new s i).derived := if_pos ⟨List.mem_singleton_self i, does⟩
    have towers : (s.withTower i (new s i)).withTower i { new s i with phase := (new s i).derivedPhase } =
        s.withTowers (s.reworked applies new [i]) := by
      refine (State.withTowers_of_tower _).symm.trans ?_
      show State.withTowers s _ = _
      congr 1
      funext j
      rw [State.withTower_tower]
      split
      · subst j; exact self.symm
      · rename_i ne
        rw [State.withTower_tower, if_neg ne]
        exact (if_neg fun m => ne (List.mem_singleton.1 m.1)).symm
    rw [State.derivePhase_eq, State.withTower_tower_self, towers, h.phase]
    congr 1
    simp only [readyOccurrences, List.filter_cons, self, Tower.derived, List.filter_nil]
    split <;> simp_all
  · rename_i does
    have same : s.reworked applies new [i] = s.tower := funext fun j => if_neg fun m => does (by
      rw [← List.mem_singleton.1 m.1]; exact m.2)
    rw [same, State.withTowers_of_tower]
    have none : readyOccurrences s.tower s.tower [i] = [] := by
      simp [readyOccurrences]
    rw [none]
    rfl

/-- The operation made on a list of towers in turn. -/
theorem ReworksTower.foldl {f : State → TowerIx → State} {applies : Tower → Bool} {new : State → TowerIx → Tower}
    (h : ReworksTower f applies new) (ts : List TowerIx) (nodup : ts.Nodup) : ∀ s : State,
    ts.foldl f s = (s.withTowers (s.reworked applies new ts)).raiseAll
      (readyOccurrences s.tower (s.reworked applies new ts) ts) := by
  induction ts with
  | nil =>
    intro s
    have same : s.reworked applies new [] = s.tower := funext fun j => if_neg fun m => List.not_mem_nil m.1
    rw [same, State.withTowers_of_tower]
    rfl
  | cons i ts ih =>
    intro s
    obtain ⟨fresh, nodup⟩ := List.nodup_cons.mp nodup
    obtain ⟨u, hu⟩ : ∃ u, u = s.withTowers (s.reworked applies new [i]) := ⟨_, rfl⟩
    have bare : (f s i).bare = s.bare := by rw [h.step, State.raiseAll_bare, State.withTowers_bare]
    have tower (j : TowerIx) : (f s i).tower j = s.reworked applies new [i] j := by
      rw [h.step, State.raiseAll_tower, State.withTowers_tower]
    have other {j : TowerIx} (ne : j ≠ i) : (f s i).tower j = s.tower j :=
      (tower j).trans (if_neg fun m => ne (List.mem_singleton.1 m.1))
    have after (j : TowerIx) : (f s i).reworked applies new ts j = s.reworked applies new (i :: ts) j := by
      unfold State.reworked
      by_cases hj : j = i
      · subst hj
        rw [if_neg fun m => fresh m.1, tower]
        simp [State.reworked]
      · rw [other hj, h.sees bare (other hj)]
        simp [hj]
    rw [List.foldl_cons, ih nodup, funext after]
    have merged : (f s i).withTowers (s.reworked applies new (i :: ts)) =
        (s.withTowers (s.reworked applies new (i :: ts))).raiseAll
          (readyOccurrences s.tower (s.reworked applies new [i]) [i]) := by
      rw [h.step, State.withTowers_raiseAll]
      rfl
    rw [merged, ← State.raiseAll_append]
    congr 1
    have first : readyOccurrences s.tower (s.reworked applies new [i]) [i] =
        readyOccurrences s.tower (s.reworked applies new (i :: ts)) [i] := by
      refine readyOccurrences_congr fun j hj => ⟨rfl, ?_⟩
      simp [State.reworked, List.mem_singleton.1 hj]
    have rest : readyOccurrences (f s i).tower (s.reworked applies new (i :: ts)) ts =
        readyOccurrences s.tower (s.reworked applies new (i :: ts)) ts :=
      readyOccurrences_congr fun j hj => ⟨other fun e => fresh (e ▸ hj), rfl⟩
    rw [first, rest]
    simp only [readyOccurrences, ← List.map_append, ← List.filter_append]
    rfl

/-! ### The operations of this shape -/

/-- A tower with every key recomputed from it, before its Phase is derived. -/
def State.withRecomputed (s : State) (i : TowerIx) (w : Tower) : Tower :=
  { w with keys := w.keys.map (s.keyRecomputed i w) }

theorem State.onLine_congr {s u : State} {i : TowerIx} (bare : s.bare = u.bare) (tower : s.tower i = u.tower i) (k : Key) :
    s.onLine i k = u.onLine i k := by
  unfold State.onLine
  rw [State.drive_of_bare bare, tower]

theorem State.keyRecomputed_congr {s u : State} {i : TowerIx} (bare : s.bare = u.bare) (tower : s.tower i = u.tower i)
    (w : Tower) : s.keyRecomputed i w = u.keyRecomputed i w := by
  obtain ⟨-, -, -, curves, sheets, -, -, -, -⟩ := State.bare_eq_iff.1 bare
  funext k
  unfold State.keyRecomputed State.curve
  rw [curves, sheets, State.onLine_congr bare tower]

theorem State.recomputeTower_reworks :
    ReworksTower State.recomputeTower (fun _ => true) fun s i => s.withRecomputed i (s.tower i) where
  eq s i := s.recomputeTower_eq i
  phase _ _ := rfl
  sees bare tower := by
    unfold State.withRecomputed
    rw [tower, State.keyRecomputed_congr bare tower]

/-- A tower as a commit leaves it, before its Phase is derived (R58, R59). -/
def State.committed (s : State) (keepTrims : Bool) (i : TowerIx) : Tower :=
  (s.withRecomputed i ((s.tower i).committed keepTrims)).stampSettled s.sheetCount

theorem State.commitTower_reworks (keepTrims : Bool) :
    ReworksTower (State.commitTower keepTrims) (fun _ => true) fun s i => s.committed keepTrims i where
  eq s i := by
    have recomputed : (s.withTower i ((s.tower i).committed keepTrims)).recomputeKeys i (fun _ => true) =
        s.withTower i (s.withRecomputed i ((s.tower i).committed keepTrims)) := by
      rw [State.recomputeKeys_withTower _ (by rfl)]
      simp [State.withRecomputed]
    simp only [State.commitTower, recomputed, State.withTower_tower_self, if_true]
    congr 1
    simp [State.withTower, State.committed]
  phase _ _ := rfl
  sees bare tower := by
    unfold State.committed State.withRecomputed
    rw [tower, (State.bare_eq_iff.1 bare).2.2.2.2.1, State.keyRecomputed_congr bare tower]

theorem State.haltTower_reworks :
    ReworksTower State.haltTower (fun w => w.setup.enabled && w.groups.any Group.busy) fun s i => (s.tower i).halted where
  eq _ _ := rfl
  phase _ _ := rfl
  sees _ tower := congrArg Tower.halted tower

/-- The keys and groups of an enabled tower at the entry into PASSTHROUGH (R174). -/
def Tower.passthrough (w : Tower) : Tower :=
  { w with keys := w.keys.map Key.enterPassthrough, groups := w.groups.map Group.clearMotion }

theorem State.passthroughTower_reworks :
    ReworksTower State.passthroughTower (fun w => w.setup.enabled) fun s i => (s.tower i).passthrough where
  eq _ _ := rfl
  phase _ _ := rfl
  sees _ tower := congrArg Tower.passthrough tower

theorem allTowers_filter_nodup (p : TowerIx → Bool) : (allTowers.filter p).Nodup := allTowers_nodup.filter _

/-- The towers after a change made to each tower of the list in turn. -/
theorem ReworksTower.foldl_tower {f : State → TowerIx → State} {applies : Tower → Bool} {new : State → TowerIx → Tower}
    (h : ReworksTower f applies new) {ts : List TowerIx} (nodup : ts.Nodup) (s : State) (i : TowerIx) :
    (ts.foldl f s).tower i = s.reworked applies new ts i := by
  rw [h.foldl ts nodup, State.raiseAll_tower, State.withTowers_tower]

end Sys2Proof.Machine
end

section
/-! PROOFS. One key through an event: what each state of Table 6-2 requires of a key's fields, and that every operation on
a key keeps its fields as its state requires. -/

namespace Sys2Proof.Machine

/-! ### Tables 6-1 and 6-2 as a predicate of the key -/

/-- The optional fields that Table 6-2 requires of a key in a state. -/
def Key.Fits (k : Key) : KeyState → Prop
  | .held => k.computed = none ∧ k.lastReported.isSome = true
  | .pending => k.computed.isSome = true ∧ k.lastReported.isSome = true
  | .settled => k.computed.isSome = true ∧ k.lastReported.isSome = true ∧ k.settledAt.isSome = true
  | .moving => k.lastReported.isSome = true
  | .fault => k.lastReported.isSome = true
  | .unknown => True
  | .unreachable => True

/-- A key as Tables 6-1 and 6-2 give it. -/
structure Key.Sound (k : Key) (corrLimit : Nat) : Prop where
  fits : k.Fits k.state
  sent : k.sentTarget.isSome = true → k.computed.isSome = true
  target : ∀ c ∈ k.computed, c.target ≤ 4000
  sentRange : ∀ o ∈ k.sentTarget, o ≤ 4000
  retry : k.retry ≤ 3
  trim : -1000 ≤ k.keyTrim ∧ k.keyTrim ≤ 1000
  corr : k.corr.natAbs ≤ corrLimit
  reported : ∀ p ∈ k.lastReported, p ≤ 4000

theorem Key.fits_iff (k : Key) : k.Fits k.state ↔
    (k.state = .held → k.computed = none ∧ k.lastReported.isSome = true) ∧
      (k.state = .pending ∨ k.state = .settled → k.computed.isSome = true ∧ k.lastReported.isSome = true) ∧
      (k.state = .moving ∨ k.state = .fault → k.lastReported.isSome = true) ∧
      (k.state = .settled → k.settledAt.isSome = true) := by
  cases k.state <;> simp [Key.Fits, and_assoc]

/-- A key without a Target has no SentTarget. -/
theorem Key.Sound.sent_none {k : Key} {limit : Nat} (h : k.Sound limit) (absent : k.computed = none) :
    k.sentTarget = none := by
  cases sent : k.sentTarget with
  | none => rfl
  | some o => exact absurd (h.sent (by rw [sent]; rfl)) (by rw [absent]; exact Bool.false_ne_true)

theorem Key.ok_iff {k : Key} {limit : Nat} : k.ok limit ↔ k.Sound limit := by
  constructor
  · rintro ⟨held, placed, moved, sent, -, settled, target, sentRange, retry, trim, corr, reported⟩
    exact ⟨k.fits_iff.2 ⟨held, placed, moved, settled⟩, sent, target, sentRange, retry, trim, corr, reported⟩
  · intro h
    obtain ⟨held, placed, moved, settled⟩ := k.fits_iff.1 h.fits
    exact ⟨held, placed, moved, h.sent, fun e => h.sent_none (held e).1, settled, h.target, h.sentRange, h.retry, h.trim,
      h.corr, h.reported⟩

/-! ### Judgements -/

/-- A key of the given fields in another state that its fields fit. -/
theorem Key.Sound.withState {k : Key} {limit : Nat} (h : k.Sound limit) {state : KeyState} (fits : k.Fits state) :
    ({ k with state := state } : Key).Sound limit :=
  { h with fits := fits }

theorem Key.Sound.withRetry {k : Key} {limit : Nat} (h : k.Sound limit) {n : Nat} (range : n ≤ 3) :
    ({ k with retry := n } : Key).Sound limit :=
  { h with retry := range, fits := h.fits }

theorem Key.Sound.settle {k : Key} {limit : Nat} (h : k.Sound limit) (computed : k.computed.isSome = true)
    (reported : k.lastReported.isSome = true) (sheets : Sheets) : (k.settle sheets).Sound limit := by
  unfold Key.settle
  split
  · exact h
  · exact { h with fits := ⟨computed, reported, rfl⟩, retry := Nat.zero_le _ }

theorem Key.Sound.rejudge {k : Key} {limit : Nat} (h : k.Sound limit) (computed : k.computed.isSome = true)
    (reported : k.lastReported.isSome = true) (tolerance : Nat) (sheets : Sheets) :
    (k.rejudge tolerance sheets).Sound limit := by
  unfold Key.rejudge
  split
  · exact h.settle computed reported sheets
  · exact h.withState ⟨computed, reported⟩

/-! ### Entries of a STATUS reply (R108 to R111) -/

theorem Key.Sound.report {k : Key} {limit : Nat} (h : k.Sound limit) (position : Nat) :
    ({ k with lastReported := some (min position Config.fullTravel) } : Key).Sound limit := by
  refine { h with fits := ?_, reported := ?_ }
  · have fits := h.fits
    show Key.Fits _ k.state
    cases state : k.state <;> rw [state] at fits
    · trivial
    · exact ⟨fits.1, rfl⟩
    · exact ⟨fits.1, rfl⟩
    · exact (rfl : true = true)
    · exact ⟨fits.1, rfl, fits.2.2⟩
    · exact (rfl : true = true)
    · trivial
  · rintro p hp
    obtain rfl := Option.some.inj hp
    exact Nat.min_le_right _ _

theorem Key.Sound.endMotion {k : Key} {limit : Nat} (h : k.Sound limit) (reported : k.lastReported.isSome = true)
    (position tolerance : Nat) (sheets : Sheets) : (k.endMotion position tolerance sheets).Sound limit := by
  unfold Key.endMotion
  split
  · rename_i sent is
    have computed : k.computed.isSome = true := h.sent (by rw [is]; rfl)
    split
    · split
      · exact h.settle computed reported sheets
      · exact Key.Sound.withState (h.withRetry (Nat.zero_le _)) ⟨computed, reported⟩
    · split
      · rename_i fewer
        exact Key.Sound.withState (h.withRetry fewer) ⟨computed, reported⟩
      · exact h.withState reported
  · split
    · rename_i absent
      exact h.withState ⟨Option.isNone_iff_eq_none.1 absent, reported⟩
    · rename_i present
      have computed : k.computed.isSome = true := by simpa [Option.isSome_iff_ne_none] using present
      split
      · exact h.settle computed reported sheets
      · exact h.withState ⟨computed, reported⟩

theorem Key.Sound.atRest {k : Key} {limit : Nat} (h : k.Sound limit) (reported : k.lastReported.isSome = true)
    (position tolerance : Nat) (sheets : Sheets) : (k.atRest position tolerance sheets).Sound limit := by
  have fits := h.fits
  unfold Key.atRest
  split <;> (rename_i state; rw [state] at fits)
  · exact h.endMotion reported position tolerance sheets
  · split
    · rename_i absent
      exact h.withState ⟨Option.isNone_iff_eq_none.1 absent, reported⟩
    · rename_i present
      exact h.rejudge (by simpa [Option.isSome_iff_ne_none] using present) reported tolerance sheets
  · exact h
  · exact h.rejudge fits.1 reported tolerance sheets
  · exact h.rejudge fits.1 reported tolerance sheets
  · exact h
  · exact h

theorem Key.Sound.applyEntry {k : Key} {limit : Nat} (h : k.Sound limit) (e : StatusEntry) (tolerance : Nat)
    (sheets : Sheets) : (k.applyEntry e tolerance sheets).Sound limit := by
  have noted := h.report e.position
  simp only [Key.applyEntry]
  split
  · exact noted
  · split
    · exact noted.withState rfl
    · split
      · split
        · exact noted
        · exact { noted with fits := (rfl : true = true), sent := nofun, sentRange := nofun }
      · exact noted.atRest rfl _ tolerance sheets

/-! ### The other events of a key -/

theorem Key.Sound.returned {k : Key} {limit : Nat} (h : k.Sound limit) : k.returned.Sound limit :=
  { h with fits := trivial, sent := nofun, sentRange := nofun, retry := Nat.zero_le _ }

/-- MOVE_ACCEPT: the target that the MOVE carried becomes the SentTarget (R117). -/
theorem Key.Sound.accept {k : Key} {limit : Nat} (h : k.Sound limit) {batch : List (Nat × Nat)}
    (range : ∀ b ∈ batch, b.2 ≤ 4000) : (k.accept batch).Sound limit := by
  unfold Key.accept
  split
  · rename_i b state carried
    have fits := h.fits
    rw [state] at fits
    obtain ⟨computed, reported⟩ := fits
    refine { h with fits := reported, sent := fun _ => computed, sentRange := fun o ho => ?_ }
    obtain rfl := Option.some.inj ho
    exact range b (List.mem_of_find?_eq_some carried)
  · exact h

theorem Key.Sound.halted {k : Key} {limit : Nat} (h : k.Sound limit) : k.halted.Sound limit := by
  unfold Key.halted
  split
  · rename_i state
    have reported := h.fits
    rw [state] at reported
    refine h.withState ?_
    split
    · rename_i present
      exact ⟨present, reported⟩
    · rename_i absent
      exact ⟨by simpa using absent, reported⟩
  · exact h

theorem Key.Sound.enterPassthrough {k : Key} {limit : Nat} (h : k.Sound limit) : k.enterPassthrough.Sound limit := by
  unfold Key.enterPassthrough
  split
  · exact h
  · exact Key.Sound.withState (h.withRetry (Nat.zero_le _)) trivial

theorem Key.Sound.cleared {k : Key} {limit : Nat} (h : k.Sound limit) (state : k.state = .fault) :
    k.cleared.Sound limit := by
  have reported := h.fits
  rw [state] at reported
  refine Key.Sound.withState (h.withRetry (Nat.zero_le _)) ?_
  split
  · rename_i present
    exact ⟨present, reported⟩
  · rename_i absent
    exact ⟨by simpa using absent, reported⟩

/-! ### Recomputes (R75, R105) -/

theorem clampTarget_le {inside : Bool} {minOpening : Nat} (h : minOpening ≤ 4000) (r : Int) :
    (clampTarget inside minOpening r).1 ≤ 4000 := by
  unfold clampTarget
  split
  · exact Nat.zero_le _
  · split
    · exact Nat.le_refl _
    · rename_i full
      split
      · exact h
      · exact Int.toNat_le.2 (not_lt.1 full)

theorem computeKey_isSome {w : Tower} {curve : Option Curve} (loaded : curve.isSome = true) (k : Key) :
    (computeKey w curve k).isSome = w.active.isSome := by
  obtain ⟨c, rfl⟩ := Option.isSome_iff_exists.1 loaded
  unfold computeKey
  cases w.active <;> rfl

theorem computeKey_target {w : Tower} {curve : Option Curve} {k : Key} (h : w.setup.minOpening ≤ 400) :
    ∀ c ∈ computeKey w curve k, c.target ≤ 4000 := by
  unfold computeKey
  split
  · rintro c hc
    obtain rfl := Option.some.inj hc
    exact clampTarget_le (by omega) _
  · nofun

/-- The items of a key that no event but a recompute changes: its Index, its computed fields and its trims. -/
structure Key.Keeps (k k' : Key) : Prop where
  index : k'.index = k.index
  computed : k'.computed = k.computed
  keyTrim : k'.keyTrim = k.keyTrim
  corr : k'.corr = k.corr

theorem Key.Keeps.refl (k : Key) : k.Keeps k := ⟨rfl, rfl, rfl, rfl⟩

theorem Key.Keeps.trans {k l m : Key} (h : k.Keeps l) (h' : l.Keeps m) : k.Keeps m :=
  ⟨h'.index.trans h.index, h'.computed.trans h.computed, h'.keyTrim.trans h.keyTrim, h'.corr.trans h.corr⟩

theorem Key.rejudge_keeps (k : Key) (tolerance : Nat) (sheets : Sheets) :
    k.Keeps (k.rejudge tolerance sheets) ∧
      ((k.rejudge tolerance sheets).state = .settled ∨ (k.rejudge tolerance sheets).state = .pending) := by
  unfold Key.rejudge Key.settle
  split
  · split
    · exact ⟨.refl k, .inl ‹_›⟩
    · exact ⟨⟨rfl, rfl, rfl, rfl⟩, .inl rfl⟩
  · exact ⟨⟨rfl, rfl, rfl, rfl⟩, .inr rfl⟩

theorem Key.recomputeOutcome_keeps (k : Key) (tolerance : Nat) (sheets : Sheets) (onLine : Bool) :
    (k.recomputeOutcome tolerance sheets onLine).index = k.index ∧
      (k.recomputeOutcome tolerance sheets onLine).computed = k.computed ∧
      ((k.recomputeOutcome tolerance sheets onLine).state = .unreachable ↔ k.state = .unreachable) := by
  obtain ⟨⟨index, computed, -, -⟩, judged⟩ := k.rejudge_keeps tolerance sheets
  have rejudged : (k.rejudge tolerance sheets).state ≠ .unreachable := by
    rcases judged with e | e <;> rw [e] <;> nofun
  unfold Key.recomputeOutcome
  split <;> rename_i state
  · split
    · exact ⟨index, computed, by simp [rejudged, state]⟩
    · exact ⟨rfl, rfl, Iff.rfl⟩
  · split
    · exact ⟨rfl, rfl, Iff.rfl⟩
    · exact ⟨index, computed, by simp [rejudged, state]⟩
  · exact ⟨index, computed, by simp [rejudged, state]⟩
  all_goals exact ⟨rfl, rfl, Iff.rfl⟩

/-- A key sound but for fields that are about to be computed anew is sound after its recompute: a Target that was there is
there again (R65, R105). -/
theorem Key.Sound.recompute {k : Key} {limit : Nat} (h : k.Sound limit) {w : Tower} {curve : Option Curve}
    (loaded : curve.isSome = true) (minOpening : w.setup.minOpening ≤ 400)
    (active : k.computed.isSome = true → w.active.isSome = true) (tolerance : Nat) (sheets : Sheets) (onLine : Bool) :
    ((k.computedFrom w curve).recomputeOutcome tolerance sheets onLine).Sound limit := by
  have same : (k.computedFrom w curve).computed.isSome = w.active.isSome := computeKey_isSome loaded k
  have fresh (fits : (k.computedFrom w curve).Fits (k.computedFrom w curve).state) :
      (k.computedFrom w curve).Sound limit :=
    { h with fits := fits, target := computeKey_target minOpening, sent := fun is => same.trans (active (h.sent is)) }
  have fits := h.fits
  unfold Key.recomputeOutcome
  split <;> (rename_i state; rw [show k.state = _ from state] at fits)
  · split
    · rename_i present
      have held : ({ k.computedFrom w curve with state := .unknown } : Key).Sound limit :=
        { h with fits := trivial, target := computeKey_target minOpening, sent := fun is => same.trans (active (h.sent is)) }
      have again : (k.computedFrom w curve).rejudge tolerance sheets =
          ({ k.computedFrom w curve with state := .unknown } : Key).rejudge tolerance sheets := by
        unfold Key.rejudge Key.settle
        rw [state]
        rfl
      rw [again]
      exact held.rejudge present fits.2 tolerance sheets
    · rename_i absent
      refine fresh ?_
      rw [state]
      exact ⟨by simpa using absent, fits.2⟩
  · have computed : (k.computedFrom w curve).computed.isSome = true := same.trans (active fits.1)
    have now := fresh (by rw [state]; exact ⟨computed, fits.2⟩)
    split
    · exact now
    · exact now.rejudge computed fits.2 tolerance sheets
  · have computed : (k.computedFrom w curve).computed.isSome = true := same.trans (active fits.1)
    have now := fresh (by rw [state]; exact ⟨computed, fits.2⟩)
    exact now.rejudge computed fits.2.1 tolerance sheets
  all_goals exact fresh (by rw [state]; exact fits)

end Sys2Proof.Machine
end

section
/-! PROOFS. What one event can do to one tower, said once: events on the records in place, recomputes, the commands of a
load, a setup and a WARM restart (`TowerEffect`). -/

namespace Sys2Proof.Machine

/-! ### Events that change the records of a tower in place -/

/-- A group's counters in their ranges, its Generation the tower's, its MotionTimer running exactly while it is Busy (R114,
R115). -/
structure Group.Sound (r : Group) (generation : Nat) : Prop where
  generation : r.generation = generation
  misses : r.missCount ≤ 3
  timeouts : r.timeouts ≤ 65535
  motion : r.motionTimer.isSome = r.busy

/-- A group record after an event that keeps it sound. -/
structure Group.Follows (r r' : Group) : Prop where
  index : r'.index = r.index
  sound : ∀ {n}, r.Sound n → r'.Sound n

/-- A key record after an event that leaves its computed fields alone and keeps it sound, provided the targets that a MOVE
carries are openings (R117). -/
structure Key.Follows (targets : Prop) (k k' : Key) : Prop where
  keeps : k.Keeps k'
  sound : targets → ∀ {limit}, k.Sound limit → k'.Sound limit

theorem Group.Follows.refl (r : Group) : r.Follows r := ⟨rfl, id⟩

theorem Key.Follows.refl (targets : Prop) (k : Key) : k.Follows targets k := ⟨.refl k, fun _ _ => id⟩

theorem Key.Follows.trans {targets : Prop} {k l m : Key} (h : k.Follows targets l) (h' : l.Follows targets m) :
    k.Follows targets m :=
  ⟨h.keeps.trans h'.keeps, fun ok _ sound => h'.sound ok (h.sound ok sound)⟩

theorem Key.group_congr {k k' : Key} (h : k'.index = k.index) : k'.group = k.group := by rw [Key.group, h, Key.group]

/-- A key is UNREACHABLE exactly when its group is ABSENT (R120). -/
def AbsenceSound (keys : List Key) (groups : List Group) : Prop :=
  ∀ r ∈ groups, ∀ k ∈ keys, k.group = r.index.val → (k.state = .unreachable ↔ r.presence = .absent)

/-- A tower after an event on its records: keys and groups changed in place, the Phase derived. -/
structure Tower.Follows (targets : Prop) (w w' : Tower) : Prop where
  frame : w' = { w with keys := w'.keys, groups := w'.groups }.derived
  keys : List.Forall₂ (Key.Follows targets) w.keys w'.keys
  groups : List.Forall₂ Group.Follows w.groups w'.groups
  absence : (w.groups.map Group.index).Nodup → AbsenceSound w.keys w.groups → AbsenceSound w'.keys w'.groups

theorem forall₂_map {α : Type} {R : α → α → Prop} {f : α → α} {l : List α} (h : ∀ a ∈ l, R a (f a)) :
    List.Forall₂ R l (l.map f) := by
  rw [List.forall₂_map_right_iff]
  exact List.forall₂_same.2 h

/-- Keys and groups mapped in place. -/
theorem Tower.Follows.of_map {targets : Prop} {w : Tower} {f : Key → Key} {g : Group → Group}
    (keys : ∀ k ∈ w.keys, k.Follows targets (f k)) (groups : ∀ r ∈ w.groups, r.Follows (g r))
    (absence : (w.groups.map Group.index).Nodup → ∀ r ∈ w.groups, ∀ k ∈ w.keys, k.group = r.index.val →
      (k.state = .unreachable ↔ r.presence = .absent) → ((f k).state = .unreachable ↔ (g r).presence = .absent)) :
    w.Follows targets { w with keys := w.keys.map f, groups := w.groups.map g }.derived where
  frame := rfl
  keys := forall₂_map keys
  groups := forall₂_map groups
  absence nodup sound r' hr k' hk same := by
    obtain ⟨r, was, rfl⟩ := List.mem_map.1 hr
    obtain ⟨k, was', rfl⟩ := List.mem_map.1 hk
    rw [Key.group_congr (keys k was').keeps.index, (groups r was).index] at same
    exact absence nodup r was k was' same (sound r was k was' same)

/-- Keys and groups mapped in place by functions that change neither what is UNREACHABLE nor what is ABSENT. -/
theorem Tower.Follows.of_map_present {targets : Prop} {w : Tower} {f : Key → Key} {g : Group → Group}
    (keys : ∀ k ∈ w.keys, k.Follows targets (f k) ∧ ((f k).state = .unreachable ↔ k.state = .unreachable))
    (groups : ∀ r ∈ w.groups, r.Follows (g r) ∧ (g r).presence = r.presence) :
    w.Follows targets { w with keys := w.keys.map f, groups := w.groups.map g }.derived :=
  .of_map (fun k hk => (keys k hk).1) (fun r hr => (groups r hr).1) fun _ r hr k hk _ was => by
    rw [(keys k hk).2, (groups r hr).2]
    exact was

/-! ### The operations on a group record -/

theorem Group.Follows.startMotion {r r' : Group} (h : r.Follows r') (n : Nat) : r.Follows (r'.startMotion n) :=
  ⟨h.index, fun sound => { h.sound sound with motion := rfl }⟩

theorem Group.Follows.clearMotion {r r' : Group} (h : r.Follows r') : r.Follows r'.clearMotion :=
  ⟨h.index, fun sound => { h.sound sound with motion := rfl }⟩

/-- MissCount back to 0, and other items that are in no relation. -/
theorem Group.Follows.heard (r : Group) (presence : Presence) (isLocal : Bool) :
    r.Follows { r with missCount := 0, presence := presence, isLocal := isLocal } :=
  ⟨rfl, fun sound => { sound with misses := Nat.zero_le _ }⟩

theorem Group.Follows.applyStatus (r : Group) (isLocal anyMoving : Bool) (motionLimit : Nat) :
    r.Follows (r.applyStatus isLocal anyMoving motionLimit) := by
  have heard := Group.Follows.heard r .present isLocal
  unfold Group.applyStatus
  dsimp only
  split
  · split
    · exact heard
    · exact heard.startMotion _
  · exact heard.clearMotion

theorem Group.applyStatus_presence (r : Group) (isLocal anyMoving : Bool) (motionLimit : Nat) :
    (r.applyStatus isLocal anyMoving motionLimit).presence = .present := by
  unfold Group.applyStatus
  dsimp only
  split
  · split <;> rfl
  · rfl

theorem Group.Follows.missed (r : Group) : r.Follows r.missed := by
  have counted : r.Follows { r with
      timeouts := satAdd r.timeouts,
      missCount := if r.missCount < Config.maxMisses then r.missCount + 1 else r.missCount } := by
    refine ⟨rfl, fun sound => { sound with timeouts := satAdd_le sound.timeouts, misses := ?_ }⟩
    have misses := sound.misses
    show (if r.missCount < 3 then r.missCount + 1 else r.missCount) ≤ 3
    split <;> omega
  unfold Group.missed
  dsimp only
  split
  · exact ⟨rfl, fun sound => { (counted.clearMotion).sound sound with }⟩
  · exact counted

theorem Group.missed_presence (r : Group) :
    r.missed.presence = if r.goesAbsent then .absent else r.presence := by
  unfold Group.missed
  dsimp only
  split <;> rfl

/-! ### The operations on a key record -/

theorem Key.Follows.rejudge {targets : Prop} {k : Key} (pending : k.state = .pending) (tolerance : Nat) (sheets : Sheets) :
    k.Follows targets (k.rejudge tolerance sheets) := by
  refine ⟨(k.rejudge_keeps tolerance sheets).1, fun _ _ sound => ?_⟩
  have fits := sound.fits
  rw [pending] at fits
  exact sound.rejudge fits.1 fits.2 tolerance sheets

theorem Key.rejudge_reachable {k : Key} (tolerance : Nat) (sheets : Sheets) :
    (k.rejudge tolerance sheets).state ≠ .unreachable := by
  rcases (k.rejudge_keeps tolerance sheets).2 with e | e <;> rw [e] <;> nofun

theorem Key.Follows.accept {targets : Prop} (k : Key) {batch : List (Nat × Nat)}
    (range : targets → ∀ b ∈ batch, b.2 ≤ 4000) : k.Follows targets (k.accept batch) := by
  refine ⟨?_, fun ok _ sound => sound.accept (range ok)⟩
  unfold Key.accept
  split <;> exact ⟨rfl, rfl, rfl, rfl⟩

theorem Key.accept_unreachable (k : Key) (batch : List (Nat × Nat)) :
    (k.accept batch).state = .unreachable ↔ k.state = .unreachable := by
  unfold Key.accept
  split
  · rename_i state _
    simp [state]
  · exact Iff.rfl

theorem Key.Follows.halted (targets : Prop) (k : Key) : k.Follows targets k.halted := by
  refine ⟨?_, fun _ _ sound => sound.halted⟩
  unfold Key.halted
  split <;> exact ⟨rfl, rfl, rfl, rfl⟩

theorem Key.halted_unreachable (k : Key) : k.halted.state = .unreachable ↔ k.state = .unreachable := by
  unfold Key.halted
  split
  · rename_i state
    split <;> simp [state]
  · exact Iff.rfl

theorem Key.Follows.enterPassthrough (targets : Prop) (k : Key) : k.Follows targets k.enterPassthrough := by
  refine ⟨?_, fun _ _ sound => sound.enterPassthrough⟩
  unfold Key.enterPassthrough
  split <;> exact ⟨rfl, rfl, rfl, rfl⟩

theorem Key.enterPassthrough_unreachable (k : Key) :
    k.enterPassthrough.state = .unreachable ↔ k.state = .unreachable := by
  unfold Key.enterPassthrough
  split
  · exact Iff.rfl
  · rename_i other
    simp [not_or.1 other]

theorem Key.Follows.cleared (targets : Prop) {k : Key} (fault : k.state = .fault) : k.Follows targets k.cleared :=
  ⟨⟨rfl, rfl, rfl, rfl⟩, fun _ _ sound => sound.cleared fault⟩

theorem Key.Follows.unreachable (targets : Prop) (k : Key) : k.Follows targets { k with state := .unreachable } :=
  ⟨⟨rfl, rfl, rfl, rfl⟩, fun _ _ sound => sound.withState trivial⟩

theorem Key.Follows.returned (targets : Prop) (k : Key) : k.Follows targets k.returned :=
  ⟨⟨rfl, rfl, rfl, rfl⟩, fun _ _ sound => sound.returned⟩

theorem Key.Follows.faulted (targets : Prop) {k : Key} (moving : k.state = .moving) :
    k.Follows targets { k with state := .fault } := by
  refine ⟨⟨rfl, rfl, rfl, rfl⟩, fun _ _ sound => sound.withState ?_⟩
  have fits := sound.fits
  rw [moving] at fits
  exact fits

theorem Key.settle_keeps (k : Key) (sheets : Sheets) : k.Keeps (k.settle sheets) ∧ (k.settle sheets).state = .settled := by
  unfold Key.settle
  split
  · exact ⟨.refl k, ‹_›⟩
  · exact ⟨⟨rfl, rfl, rfl, rfl⟩, rfl⟩

/-- A motion that ends leaves the key in one of four states, none of them UNREACHABLE (R110). -/
theorem Key.endMotion_keeps (k : Key) (position tolerance : Nat) (sheets : Sheets) :
    k.Keeps (k.endMotion position tolerance sheets) ∧
      (k.endMotion position tolerance sheets).state ≠ .unreachable := by
  obtain ⟨keeps, settled⟩ := k.settle_keeps sheets
  have ended : (k.settle sheets).state ≠ .unreachable := by rw [settled]; nofun
  unfold Key.endMotion
  split
  · split
    · split
      · exact ⟨keeps, ended⟩
      · exact ⟨⟨rfl, rfl, rfl, rfl⟩, nofun⟩
    · split
      · exact ⟨⟨rfl, rfl, rfl, rfl⟩, nofun⟩
      · exact ⟨⟨rfl, rfl, rfl, rfl⟩, nofun⟩
  · split
    · exact ⟨⟨rfl, rfl, rfl, rfl⟩, nofun⟩
    · split
      · exact ⟨keeps, ended⟩
      · exact ⟨⟨rfl, rfl, rfl, rfl⟩, nofun⟩

theorem Key.atRest_keeps (k : Key) (position tolerance : Nat) (sheets : Sheets) :
    k.Keeps (k.atRest position tolerance sheets) ∧
      (k.state ≠ .unreachable → (k.atRest position tolerance sheets).state ≠ .unreachable) := by
  obtain ⟨keeps, -⟩ := k.rejudge_keeps tolerance sheets
  have judged := k.rejudge_reachable tolerance sheets
  obtain ⟨keeps', ended⟩ := k.endMotion_keeps position tolerance sheets
  unfold Key.atRest
  split
  · exact ⟨keeps', fun _ => ended⟩
  · split
    · exact ⟨⟨rfl, rfl, rfl, rfl⟩, fun _ => nofun⟩
    · exact ⟨keeps, fun _ => judged⟩
  · exact ⟨.refl k, id⟩
  · exact ⟨keeps, fun _ => judged⟩
  · exact ⟨keeps, fun _ => judged⟩
  · exact ⟨.refl k, id⟩
  · exact ⟨.refl k, id⟩

theorem Key.applyEntry_keeps (k : Key) (e : StatusEntry) (tolerance : Nat) (sheets : Sheets) :
    k.Keeps (k.applyEntry e tolerance sheets) ∧
      (k.state ≠ .unreachable → (k.applyEntry e tolerance sheets).state ≠ .unreachable) := by
  obtain ⟨⟨index, computed, keyTrim, corr⟩, rested⟩ := Key.atRest_keeps
    { k with lastReported := some (min e.position Config.fullTravel) } (min e.position Config.fullTravel) tolerance sheets
  simp only [Key.applyEntry]
  split
  · exact ⟨⟨rfl, rfl, rfl, rfl⟩, id⟩
  · split
    · exact ⟨⟨rfl, rfl, rfl, rfl⟩, fun _ => nofun⟩
    · split
      · split
        · exact ⟨⟨rfl, rfl, rfl, rfl⟩, id⟩
        · exact ⟨⟨rfl, rfl, rfl, rfl⟩, fun _ => nofun⟩
      · exact ⟨⟨index, computed, keyTrim, corr⟩, rested⟩

theorem Key.Follows.applyEntry (targets : Prop) (k : Key) (e : StatusEntry) (tolerance : Nat) (sheets : Sheets) :
    k.Follows targets (k.applyEntry e tolerance sheets) :=
  ⟨(k.applyEntry_keeps e tolerance sheets).1, fun _ _ sound => sound.applyEntry e tolerance sheets⟩

/-! ### The events of the drive line on a tower -/

/-- A function of keys made on one group alone. -/
theorem Key.Follows.onGroup {targets : Prop} {k : Key} {g : GroupIx} {f : Key → Key} (h : k.Follows targets (f k)) :
    k.Follows targets (if k.group = g.val then f k else k) := by
  split
  · exact h
  · exact .refl targets k

theorem Group.Follows.onGroup {r : Group} {g : GroupIx} {f : Group → Group} (h : r.Follows (f r)) :
    r.Follows (if r.index = g then f r else r) := by
  split
  · exact h
  · exact .refl r

/-- The judgement of a batch at one key (R106). -/
def Key.judgeIn (k : Key) (batch : List (Nat × Nat)) (tolerance : Nat) (sheets : Sheets) : Key :=
  if k.state = .pending ∧ batch.any (fun b => b.1 == k.index) then k.rejudge tolerance sheets else k

theorem Key.Follows.judgeIn (targets : Prop) (k : Key) (batch : List (Nat × Nat)) (tolerance : Nat) (sheets : Sheets) :
    k.Follows targets (k.judgeIn batch tolerance sheets) := by
  unfold Key.judgeIn
  split
  · rename_i judged
    exact .rejudge judged.1 tolerance sheets
  · exact .refl targets k

theorem Key.judgeIn_unreachable (k : Key) (batch : List (Nat × Nat)) (tolerance : Nat) (sheets : Sheets) :
    (k.judgeIn batch tolerance sheets).state = .unreachable ↔ k.state = .unreachable := by
  unfold Key.judgeIn
  split
  · rename_i judged
    simp [k.rejudge_reachable tolerance sheets, judged.1]
  · exact Iff.rfl

/-- A change to the keys of one group, with what it does to UNREACHABLE. -/
theorem onGroup_unreachable {k : Key} {g : GroupIx} {f : Key → Key} (h : (f k).state = .unreachable ↔ k.state = .unreachable) :
    (if k.group = g.val then f k else k).state = .unreachable ↔ k.state = .unreachable := by
  split
  · exact h
  · exact Iff.rfl

theorem onGroup_presence {r : Group} {g : GroupIx} {f : Group → Group} (h : (f r).presence = r.presence) :
    (if r.index = g then f r else r).presence = r.presence := by
  split
  · exact h
  · rfl

/-- One group's record and keys changed, with no change to what is UNREACHABLE or ABSENT. -/
theorem Tower.Follows.of_group {targets : Prop} {w : Tower} {g : GroupIx} {f : Key → Key} {h : Group → Group}
    (keys : ∀ k, k.Follows targets (f k) ∧ ((f k).state = .unreachable ↔ k.state = .unreachable))
    (groups : ∀ r : Group, r.Follows (h r) ∧ (h r).presence = r.presence) :
    w.Follows targets ((w.mapGroup g h).mapGroupKeys g f).derived :=
  .of_map_present (fun k _ => ⟨.onGroup (keys k).1, onGroup_unreachable (keys k).2⟩)
    fun r _ => ⟨.onGroup (groups r).1, onGroup_presence (groups r).2⟩

theorem Tower.applyAccept_follows {targets : Prop} (w : Tower) (g : GroupIx) {batch : List (Nat × Nat)}
    (range : targets → ∀ b ∈ batch, b.2 ≤ 4000) : w.Follows targets (w.applyAccept g batch).derived :=
  .of_group (fun k => ⟨.accept k range, k.accept_unreachable _⟩) fun r =>
    ⟨(Group.Follows.heard r r.presence r.isLocal).startMotion _, rfl⟩

/-- A group record after a MOVE_REJECT (R118). -/
def Group.rejected (r : Group) (reason : RejectReason) (motionLimit : Nat) : Group :=
  match reason with
  | .panelLocal => { r with missCount := 0, isLocal := true }
  | .driveBusy => { r with missCount := 0 }.startMotion motionLimit

theorem Group.Follows.rejected (r : Group) (reason : RejectReason) (motionLimit : Nat) :
    r.Follows (r.rejected reason motionLimit) ∧ (r.rejected reason motionLimit).presence = r.presence := by
  cases reason
  · exact ⟨.heard r r.presence true, rfl⟩
  · exact ⟨(Group.Follows.heard r r.presence r.isLocal).startMotion _, rfl⟩

theorem Tower.applyReject_eq (w : Tower) (g : GroupIx) (batch : List (Nat × Nat)) (reason : RejectReason)
    (sheets : Sheets) : w.applyReject g batch reason sheets =
      (w.mapGroup g fun r => r.rejected reason w.setup.motionLimit).mapGroupKeys g
        fun k => k.judgeIn batch w.setup.tolerance sheets := by
  cases reason <;> rfl

theorem Tower.applyReject_follows (targets : Prop) (w : Tower) (g : GroupIx) (batch : List (Nat × Nat))
    (reason : RejectReason) (sheets : Sheets) : w.Follows targets (w.applyReject g batch reason sheets).derived := by
  rw [Tower.applyReject_eq]
  exact .of_group (fun k => ⟨.judgeIn targets k _ _ _, k.judgeIn_unreachable _ _ _⟩) fun r =>
    Group.Follows.rejected r _ _

/-- Of the groups of a tower one alone has a given number. -/
theorem Tower.group?_unique {w : Tower} {g : GroupIx} {r r' : Group} (nodup : (w.groups.map Group.index).Nodup)
    (record : w.group? g = some r) (mem : r' ∈ w.groups) (same : r'.index = g) : r' = r := by
  obtain ⟨mem', index⟩ := Tower.group?_mem record
  exact List.inj_on_of_nodup_map nodup mem mem' (same.trans index.symm)

theorem Tower.applyMiss_follows {targets : Prop} {w : Tower} {g : GroupIx} {r : Group} (record : w.group? g = some r)
    {f : Key → Key} (keys : ∀ k ∈ w.keys, k.Follows targets (f k) ∧ ((f k).state = .unreachable ↔ k.state = .unreachable)) :
    w.Follows targets (({ w with keys := w.keys.map f } : Tower).applyMiss g).derived := by
  have again : ({ w with keys := w.keys.map f } : Tower).group? g = some r := record
  unfold Tower.applyMiss
  simp only [again]
  have groups (r' : Group) (_ : r' ∈ w.groups) : r'.Follows (if r'.index = g then r'.missed else r') := .onGroup (.missed r')
  split
  · rename_i gone
    have merged : ((({ w with keys := w.keys.map f } : Tower).mapGroup g Group.missed).mapGroupKeys g
        fun k => { k with state := .unreachable }) = { w with
          keys := w.keys.map fun k => if (f k).group = g.val then { f k with state := .unreachable } else f k,
          groups := w.groups.map fun r' => if r'.index = g then r'.missed else r' } := by
      simp [Tower.mapGroup, Tower.mapGroupKeys, Function.comp_def]
    rw [merged]
    refine Tower.Follows.of_map (fun k hk => ?_) groups fun nodup r' hr' k hk same was => ?_
    · split
      · exact (keys k hk).1.trans (.unreachable targets (f k))
      · exact (keys k hk).1
    · rw [Key.group_congr (keys k hk).1.keeps.index, same]
      by_cases index : r'.index = g
      · obtain rfl := Tower.group?_unique nodup record hr' index
        rw [if_pos (congrArg Fin.val index), if_pos index, Group.missed_presence, gone, if_pos rfl]
        exact ⟨fun _ => rfl, fun _ => rfl⟩
      · rw [if_neg fun e => index (Fin.ext e), if_neg index, (keys k hk).2]
        exact was
  · rename_i stays
    refine Tower.Follows.of_map (fun k hk => (keys k hk).1) groups fun nodup r' hr' k hk same was => ?_
    rw [(keys k hk).2]
    split
    · rename_i index
      obtain rfl := Tower.group?_unique nodup record hr' index
      rw [Group.missed_presence, if_neg stays]
      exact was
    · exact was

theorem Tower.moveMissed_follows (targets : Prop) {w : Tower} {g : GroupIx} {r : Group} (record : w.group? g = some r)
    (batch : List (Nat × Nat)) (sheets : Sheets) :
    w.Follows targets ((w.judgeBatch g batch sheets).applyMiss g).derived :=
  Tower.applyMiss_follows record fun k _ =>
    ⟨.onGroup (.judgeIn targets k _ _ _), onGroup_unreachable (k.judgeIn_unreachable _ _ _)⟩

theorem Tower.statusMissed_follows (targets : Prop) {w : Tower} {g : GroupIx} {r : Group} (record : w.group? g = some r) :
    w.Follows targets (w.applyMiss g).derived := by
  have missed := Tower.applyMiss_follows (f := id) record fun k _ => ⟨.refl targets k, Iff.rfl⟩
  rwa [List.map_id] at missed

/-- What a STATUS reply does at a key of its group: the return of the group first, then the key's entry (R107). -/
def Key.statusApplied (k : Key) (absent : Bool) (entries : List StatusEntry) (tolerance : Nat) (sheets : Sheets) : Key :=
  let k' := if absent then k.returned else k
  match entries.find? fun e => e.key == k'.index with
  | some e => k'.applyEntry e tolerance sheets
  | none => k'

theorem Key.Follows.statusApplied (targets : Prop) (k : Key) (absent : Bool) (entries : List StatusEntry) (tolerance : Nat)
    (sheets : Sheets) : k.Follows targets (k.statusApplied absent entries tolerance sheets) := by
  have before : k.Follows targets (if absent then k.returned else k) := by
    split
    · exact .returned targets k
    · exact .refl targets k
  unfold Key.statusApplied
  dsimp only
  split
  · exact before.trans (.applyEntry targets _ _ tolerance sheets)
  · exact before

theorem Key.statusApplied_reachable {k : Key} {absent : Bool} (h : k.state = .unreachable → absent = true)
    (entries : List StatusEntry) (tolerance : Nat) (sheets : Sheets) :
    (k.statusApplied absent entries tolerance sheets).state ≠ .unreachable := by
  have before : (if absent then k.returned else k).state ≠ .unreachable := by
    split
    · nofun
    · rename_i present
      exact fun e => present (h e)
  unfold Key.statusApplied
  dsimp only
  split
  · exact (Key.applyEntry_keeps _ _ tolerance sheets).2 before
  · exact before

theorem Tower.applyStatus_eq (w : Tower) (g : GroupIx) (r : Group) (isLocal : Bool) (entries : List StatusEntry)
    (sheets : Sheets) : w.applyStatus g r isLocal entries sheets = { w with
      keys := w.keys.map fun k =>
        if k.group = g.val then k.statusApplied (r.presence == .absent) entries w.setup.tolerance sheets else k,
      groups := w.groups.map fun r =>
        if r.index = g then r.applyStatus isLocal (entries.any StatusEntry.moving) w.setup.motionLimit else r } := by
  unfold Tower.applyStatus Tower.beforeEntries Key.statusApplied
  split
  · rename_i absent
    simp only [Tower.mapGroup, Tower.mapGroupKeys, List.map_map, absent]
    congr 1
    refine List.map_congr_left fun k _ => ?_
    by_cases here : k.group = g.val
    · have still : k.returned.group = g.val := here
      simp only [Function.comp_apply, here, still, if_true, beq_self_eq_true] <;> rfl
    · simp only [Function.comp_apply, here, if_false]
  · rename_i present
    have present' : (r.presence == .absent) = false := by simpa using present
    simp only [Tower.mapGroup, Tower.mapGroupKeys, present', Bool.false_eq_true, if_false] <;> rfl

theorem Tower.applyStatus_follows (targets : Prop) {w : Tower} {g : GroupIx} {r : Group} (record : w.group? g = some r)
    (isLocal : Bool) (entries : List StatusEntry) (sheets : Sheets) :
    w.Follows targets (w.applyStatus g r isLocal entries sheets).derived := by
  rw [Tower.applyStatus_eq]
  refine Tower.Follows.of_map (fun k _ => .onGroup (f := fun k => k.statusApplied _ _ _ _) (.statusApplied targets k _ _ _ _))
    (fun r' _ => .onGroup (f := fun r => r.applyStatus _ _ _) (.applyStatus r' _ _ _)) fun nodup r' hr' k hk same was => ?_
  rw [same]
  by_cases index : r'.index = g
  · obtain rfl := Tower.group?_unique nodup record hr' index
    have heard := Key.statusApplied_reachable (absent := r'.presence == .absent) (fun e => by simpa using was.1 e)
      entries w.setup.tolerance sheets
    rw [if_pos (congrArg Fin.val index), if_pos index, Group.applyStatus_presence]
    exact ⟨fun e => absurd e heard, nofun⟩
  · rw [if_neg fun e => index (Fin.ext e), if_neg index]
    exact was

theorem Tower.applyMotionExpiry_follows (targets : Prop) (w : Tower) (g : GroupIx) :
    w.Follows targets (w.applyMotionExpiry g).derived := by
  refine .of_group (fun k => ?_) fun r => ⟨(Group.Follows.refl r).clearMotion, rfl⟩
  split
  · rename_i moving
    exact ⟨.faulted targets moving, by simp [moving]⟩
  · exact ⟨.refl targets k, Iff.rfl⟩

theorem Tower.halted_follows (targets : Prop) (w : Tower) : w.Follows targets w.halted.derived := by
  refine Tower.Follows.of_map_present (fun k _ => ?_) fun r _ => ?_
  · split
    · exact ⟨.halted targets k, k.halted_unreachable⟩
    · exact ⟨.refl targets k, Iff.rfl⟩
  · split
    · exact ⟨(Group.Follows.refl r).clearMotion, rfl⟩
    · exact ⟨.refl r, rfl⟩

theorem Tower.passthrough_follows (targets : Prop) (w : Tower) : w.Follows targets w.passthrough.derived :=
  .of_map_present (fun k _ => ⟨.enterPassthrough targets k, k.enterPassthrough_unreachable⟩)
    fun r _ => ⟨(Group.Follows.refl r).clearMotion, rfl⟩

theorem Tower.faultCleared_follows (targets : Prop) (w : Tower) (scope : Key → Bool) :
    w.Follows targets ({ w with
      keys := w.keys.map fun k => if scope k && k.state == .fault then k.cleared else k } : Tower).derived := by
  have same : w.groups = w.groups.map id := (List.map_id _).symm
  refine cast (congrArg (fun gs => w.Follows targets ({ w with keys := _, groups := gs } : Tower).derived) same.symm)
    (Tower.Follows.of_map_present (fun k _ => ?_) fun r _ => ⟨.refl r, rfl⟩)
  split
  · rename_i hit
    have fault : k.state = .fault := eq_of_beq (Bool.and_eq_true_iff.1 hit).2
    refine ⟨.cleared targets fault, ?_⟩
    unfold Key.cleared
    split <;> simp [fault]
  · exact ⟨.refl targets k, Iff.rfl⟩

end Sys2Proof.Machine
end

section
/-! PROOFS. What one event can do to one tower (`TowerEffect`), and that every command does nothing else to the towers and
the curve library. -/

namespace Sys2Proof.Machine

/-! ### Recomputes -/

/-- A key recomputed from the tower `v` with its trims as the event has left them (R75, R105). -/
structure Key.RecomputedBy (v : Tower) (curve : Option Curve) (k k' : Key) : Prop where
  index : k'.index = k.index
  computed : k'.computed = computeKey v curve k'
  unreachable : k'.state = .unreachable ↔ k.state = .unreachable
  sound : curve.isSome = true → v.setup.minOpening ≤ 400 → (k.computed.isSome = true → v.active.isSome = true) →
    k.Sound v.setup.corrLimit → k'.Sound v.setup.corrLimit

/-- The computed fields depend on no field that the outcome of a recompute changes (R65 to R74). -/
theorem computeKey_congr {v : Tower} {curve : Option Curve} {k k' : Key} (index : k'.index = k.index)
    (keyTrim : k'.keyTrim = k.keyTrim) (corr : k'.corr = k.corr) : computeKey v curve k' = computeKey v curve k := by
  unfold computeKey computeStages
  rw [index, keyTrim, corr]

/-- A key recomputed after its trims have been written. -/
theorem State.keyRecomputed_by (s : State) (i : TowerIx) (v : Tower) (k : Key) {keyTrim corr : Int}
    (range : k.Sound v.setup.corrLimit → (-1000 ≤ keyTrim ∧ keyTrim ≤ 1000) ∧ corr.natAbs ≤ v.setup.corrLimit) :
    k.RecomputedBy v (s.curve v.setup.curveId) (s.keyRecomputed i v { k with keyTrim := keyTrim, corr := corr }) := by
  obtain ⟨index, trim, corr, -, -, computed⟩ := s.keyRecomputed_keeps i v { k with keyTrim := keyTrim, corr := corr }
  refine ⟨index, ?_, ?_, fun loaded minOpening active sound => ?_⟩
  · rw [computed, computeKey_congr index trim corr]
  · exact (Key.recomputeOutcome_keeps _ _ _ _).2.2
  · obtain ⟨trimRange, corrRange⟩ := range sound
    have written : ({ k with keyTrim := keyTrim, corr := _ } : Key).Sound v.setup.corrLimit :=
      { sound with trim := trimRange, corr := corrRange, fits := sound.fits }
    exact written.recompute loaded minOpening active _ _ _

/-- A key recomputed with its trims as they are. -/
theorem State.keyRecomputed_self (s : State) (i : TowerIx) (v : Tower) (k : Key) :
    k.RecomputedBy v (s.curve v.setup.curveId) (s.keyRecomputed i v k) :=
  s.keyRecomputed_by i v k fun sound => ⟨sound.trim, sound.corr⟩

/-- A SETTLED key that notes the present sheet afterwards (R59). -/
theorem Key.RecomputedBy.stamped {v : Tower} {curve : Option Curve} {k k' : Key} (h : k.RecomputedBy v curve k')
    (sheets : Sheets) :
    k.RecomputedBy v curve (if k'.state = .settled then { k' with settledAt := some sheets } else k') := by
  split
  · rename_i settled
    refine ⟨h.index, h.computed, h.unreachable, fun loaded minOpening active sound => ?_⟩
    have now := h.sound loaded minOpening active sound
    have fits := now.fits
    rw [settled] at fits
    refine { now with fits := ?_ }
    show Key.Fits _ k'.state
    rw [settled]
    exact ⟨fits.1, fits.2.1, rfl⟩
  · exact h

/-! ### The inputs that an event changes before it recomputes -/

/-- The tower that the keys are recomputed from: the tower as it is, with a sweep and a trim stored (R27, R28), or with its
Staged profile made Active (R58). -/
inductive Retuned (c : Instr) (w : Tower) : Tower → Prop
  | same : Retuned c w w
  | trim {sweep towerTrim} (is : c = .towerTrim) (sweeps : 20 ≤ sweep ∧ sweep ≤ 100)
      (trims : 50 ≤ towerTrim ∧ towerTrim ≤ 200) :
      Retuned c w { w with setup := { w.setup with sweep := sweep, towerTrim := towerTrim } }
  | commit {q} (is : c = .jobCommit) (staged : w.staged = some q) (closed : q.status ≠ .loading) :
      Retuned c w { w with active := some q.activated, staged := none }

/-- The Staged profile and the idle timer after a command of a load (chapter 3). -/
inductive LoadStep (c : Instr) (i : TowerIx) (w : Tower) : Option Staged → Option Nat → Prop
  | broken {q} (is : c = .profileBegin ∨ c = .profileIdleExpiry i) (loading : w.loading = some q) :
      LoadStep c i w (some { q with status := .incomplete }) none
  | opened {p mode zones} (is : c = .profileBegin) (checked : firstFailing (beginChecks p) = none)
      (values : zones = List.replicate (byteAt p 4) 0 ∨
        ∃ q, w.staged = some q ∧ q.body.zoneCount = byteAt p 4 ∧ zones = q.body.zones) :
      LoadStep c i w (some { status := .loading, body := beginBody p mode zones,
                             written := List.replicate (byteAt p 4) false, pointer := 0 }) (some Config.idleMs)
  | placed {q start values} (is : c = .profileZones) (loading : w.loading = some q)
      (inside : ∀ n ∈ start, n < q.body.zoneCount) :
      LoadStep c i w (some (placeZones q start values).staged) (some Config.idleMs)
  | ended {q} (is : c = .profileEnd) (loading : w.loading = some q) :
      LoadStep c i w (some { q with status := q.endStatus }) none

/-! ### One event, one tower -/

/-- The targets that the MOVE on the line carries are openings. -/
def State.batchOk (s : State) : Prop := ∀ b ∈ s.drive.line.batch, b.2 ≤ 4000

/-- What an event of the command `c` can make of tower `i`, CURVE_LOAD and COLD apart. -/
inductive TowerEffect (c : Instr) (s : State) (i : TowerIx) : Tower → Prop
  | same : TowerEffect c s i (s.tower i)
  | setup {p} (is : c = .towerSetup) (checked : firstFailing (s.setupChecks p) = none) :
      TowerEffect c s i ((s.tower i).rebuilt (setupOf p)).derived
  | rekeyed {v f} (retuned : Retuned c (s.tower i) v) (enabled : (s.tower i).setup.enabled = true)
      (keys : ∀ k ∈ (s.tower i).keys,
        k.RecomputedBy v (s.curve v.setup.curveId) (f k) ∨ v = s.tower i ∧ f k = k) :
      TowerEffect c s i ({ v with keys := (s.tower i).keys.map f } : Tower).derived
  | load {staged idle} (step : LoadStep c i (s.tower i) staged idle) :
      TowerEffect c s i { s.tower i with staged := staged, idle := idle }
  | records {w'} (follows : (s.tower i).Follows s.batchOk w') : TowerEffect c s i w'
  | warm {h} (is : c = .warmRestart h) : TowerEffect c s i ((s.tower i).warm (s.curve (s.tower i).setup.curveId))

/-- One tower alone is changed. -/
theorem TowerEffect.of_one {c : Instr} {s u : State} {i : TowerIx} (self : TowerEffect c s i (u.tower i))
    (other : ∀ j, j ≠ i → u.tower j = s.tower j) : ∀ j, TowerEffect c s j (u.tower j) := by
  intro j
  by_cases h : j = i
  · exact h ▸ self
  · rw [other j h]
    exact .same

/-- A tower replaced, its Phase derived. -/
theorem TowerEffect.of_derivePhase {c : Instr} {s : State} {i : TowerIx} {v : Tower} (h : TowerEffect c s i v.derived) :
    ∀ j, TowerEffect c s j (((s.withTower i v).derivePhase i).tower j) :=
  .of_one (by rw [State.withTower_derivePhase_tower, if_pos rfl]; exact h)
    fun j ne => by rw [State.withTower_derivePhase_tower, if_neg ne]

/-- A tower replaced, occurrences, its Phase derived. -/
theorem TowerEffect.of_raiseAll {c : Instr} {s : State} {i : TowerIx} {v : Tower} (h : TowerEffect c s i v.derived)
    (os : List (SourceIx × Detail)) :
    ∀ j, TowerEffect c s j ((((s.withTower i v).raiseAll os).derivePhase i).tower j) := by
  refine TowerEffect.of_one (i := i) ?_ fun j ne => ?_
  · rw [State.derivePhase_tower, if_pos rfl, State.raiseAll_tower, State.withTower_tower_self]
    exact h
  · rw [State.derivePhase_tower, if_neg ne, State.raiseAll_tower, State.withTower_tower, if_neg ne]

theorem TowerEffect.of_withTower {c : Instr} {s : State} {i : TowerIx} {v : Tower} (h : TowerEffect c s i v) :
    ∀ j, TowerEffect c s j ((s.withTower i v).tower j) :=
  .of_one (by rw [State.withTower_tower_self]; exact h) fun j ne => by rw [State.withTower_tower, if_neg ne]

theorem TowerEffect.of_towers {c : Instr} {s u : State} (h : u.towers = s.towers) (j : TowerIx) :
    TowerEffect c s j (u.tower j) := by
  have same : u.tower j = s.tower j := congrArg (fun towers => towers[j]) h
  rw [same]
  exact .same

/-! ### Setups and trims -/

theorem towerSetupRules_towers (s : State) (p : List Byte) (j : TowerIx) :
    TowerEffect .towerSetup s j ((towerSetupRules s p).state.tower j) := by
  unfold towerSetupRules
  split
  · rename_i i checked _
    have same (u : State) (b : Bool) : (u.pollerAfterSetup b).tower j = u.tower j :=
      congrArg (fun towers => towers[j]) (u.pollerAfterSetup_towers b)
    dsimp only
    rw [same]
    exact TowerEffect.of_derivePhase (.setup rfl checked) j
  · exact .same
  · exact .same

theorem towerTrimRules_towers (s : State) (p : List Byte) (j : TowerIx) :
    TowerEffect .towerTrim s j ((towerTrimRules s p).state.tower j) := by
  simp only [towerTrimRules]
  split
  · exact .same
  · rename_i i _
    split
    · rename_i enabled
      dsimp only
      split
      · exact .same
      · rw [State.recomputeTower_withTower _ (by rfl)]
        refine TowerEffect.of_derivePhase (.rekeyed (.trim rfl (clampNat_bounds (by decide) _) (clampNat_bounds (by decide) _))
          enabled fun k _ => .inl (s.keyRecomputed_self i _ k)) j
    · exact .same

/-! ### Key trims and reports -/

theorem clampTrim_bounds (n : Int) : -1000 ≤ clampTrim n ∧ clampTrim n ≤ 1000 := by
  rw [clampTrim_eq_max_min]
  omega

theorem keyTrimRules_towers (s : State) (p : List Byte) (j : TowerIx) :
    TowerEffect .keyTrim s j ((keyTrimRules s p).state.tower j) := by
  simp only [keyTrimRules]
  split
  · exact .same
  · rename_i i _
    split
    · exact .same
    · rename_i enabled
      split
      · exact .same
      · split
        · exact .same
        · dsimp only
          rw [State.recomputeKeys_trimmed]
          refine TowerEffect.of_derivePhase (.rekeyed .same (by simpa using enabled) fun k _ => ?_) j
          unfold State.keyTrimmed
          split
          · exact .inl (s.keyRecomputed_by i _ k fun sound => ⟨clampTrim_bounds _, sound.corr⟩)
          · exact .inr ⟨rfl, rfl⟩

/-- A key after a report, by the outcome at it (R95, R97). -/
def State.keyReported (s : State) (i : TowerIx) (at' : Key → Option DensityOutcome) (k : Key) : Key :=
  match at' k with
  | some (.changed corr) => s.keyRecomputed i (s.tower i) { k with corr := corr }
  | _ => k

/-- CORR_LIMIT for each key whose Corr reached its limit, in key order (R96). -/
def Tower.limitOccurrences (w : Tower) (i : TowerIx) (at' : Key → Option DensityOutcome) : List (SourceIx × Detail) :=
  (w.keys.filter fun k => ((at' k).map (DensityOutcome.atLimit w.setup.corrLimit)).getD false).map fun k =>
    (srcCorrLimit, .key i k.index)

theorem State.applyReport_eq (s : State) (i : TowerIx) (at' : Key → Option DensityOutcome) :
    s.applyReport i at' =
      ((s.withTower i { s.tower i with keys := (s.tower i).keys.map (s.keyReported i at') }).raiseAll
        ((s.tower i).limitOccurrences i at')).derivePhase i := by
  have each : (fun k => if ((at' k).map DensityOutcome.isChanged).getD false then
      s.recomputedKey i (k.corrected (at' k)) else k) = s.keyReported i at' := by
    funext k
    unfold State.keyReported
    cases at' k with
    | none => rfl
    | some o => cases o <;> rfl
  simp only [State.applyReport, each]
  rfl

/-- A report that writes Corrs within the limit (R95, R97). -/
theorem State.applyReport_towers {s : State} {i : TowerIx} (enabled : (s.tower i).setup.enabled = true)
    {at' : Key → Option DensityOutcome}
    (range : ∀ k corr, at' k = some (.changed corr) → corr.natAbs ≤ (s.tower i).setup.corrLimit) (j : TowerIx) :
    TowerEffect .densityReport s j ((s.applyReport i at').tower j) := by
  rw [State.applyReport_eq]
  refine TowerEffect.of_raiseAll (.rekeyed .same enabled fun k _ => ?_) _ j
  unfold State.keyReported
  split
  · rename_i corr written
    exact .inl (s.keyRecomputed_by i _ k fun sound => ⟨sound.trim, range k corr written⟩)
  · exact .inr ⟨rfl, rfl⟩

/-- A Corr that a report writes is within its limit (R95). -/
theorem Key.density_changed {k : Key} {u : Setup} {sheets : Sheets} {deviation corr : Int}
    (h : k.density u sheets deviation = .changed corr) : corr.natAbs ≤ u.corrLimit := by
  unfold Key.density at h
  repeat' split at h
  all_goals cases h
  exact clampInt_natAbs_le _ _

theorem densityReportRules_towers (s : State) (p : List Byte) (j : TowerIx) :
    TowerEffect .densityReport s j ((densityReportRules s p).state.tower j) := by
  simp only [densityReportRules]
  split
  · exact .same
  · rename_i i _
    split
    · exact .same
    · split
      · exact .same
      · rename_i enabled
        split
        · exact .same
        · refine State.applyReport_towers (by simpa using enabled) (fun k corr written => ?_) j
          obtain ⟨d, -, outcome⟩ := Option.map_eq_some_iff.1 written
          exact Key.density_changed outcome

theorem faultClearRules_towers (s : State) (p : List Byte) (j : TowerIx) :
    TowerEffect .faultClear s j ((faultClearRules s p).state.tower j) := by
  simp only [faultClearRules]
  split
  · exact .same
  · split
    · exact .same
    · split
      · exact .same
      · exact TowerEffect.of_derivePhase (.records (Tower.faultCleared_follows _ _ _)) j

/-! ### Loads and commits -/

theorem Tower.loading_eq_some {w : Tower} {q : Staged} : w.loading = some q ↔ w.staged = some q ∧ q.status = .loading := by
  unfold Tower.loading
  cases w.staged with
  | none => simp
  | some p =>
    dsimp only
    split
    · rename_i loading
      constructor
      · intro e
        obtain rfl := Option.some.inj e
        exact ⟨rfl, loading⟩
      · rintro ⟨e, -⟩
        exact e
    · rename_i other
      refine ⟨nofun, ?_⟩
      rintro ⟨e, loading⟩
      obtain rfl := Option.some.inj e
      exact absurd loading other

theorem State.breakLoad_cases (s : State) (i : TowerIx) :
    (∃ q, (s.tower i).loading = some q ∧
      s.breakLoad i = (s.withTower i (s.tower i).closePartial).raise srcProfilePartial (.tower i)) ∨
    (s.tower i).loading = none ∧ s.breakLoad i = s := by
  cases loading : (s.tower i).loading with
  | some q => exact .inl ⟨q, rfl, by simp only [State.breakLoad, loading]⟩
  | none => exact .inr ⟨rfl, by simp only [State.breakLoad, loading]⟩

theorem State.breakLoad_towers {c : Instr} {s : State} {i : TowerIx} (is : c = .profileBegin ∨ c = .profileIdleExpiry i)
    (j : TowerIx) : TowerEffect c s j ((s.breakLoad i).tower j) := by
  rcases s.breakLoad_cases i with ⟨q, loading, e⟩ | ⟨-, e⟩ <;> rw [e]
  · rw [State.raise_tower]
    refine TowerEffect.of_withTower ?_ j
    have closed := TowerEffect.load (s := s) (LoadStep.broken is loading)
    unfold Tower.closePartial
    rw [(Tower.loading_eq_some.1 loading).1]
    exact closed
  · exact .same

/-- The zone values that a load starts from: 0, or those that a COMPLETE profile of the same zones holds (R44, R45). -/
theorem judgeBegin_zones {staged : Option Staged} {p : List Byte} {mode : LoadMode} {zones : List Nat}
    (h : judgeBegin staged p mode = .ok zones) : zones = List.replicate (byteAt p 4) 0 ∨
      ∃ q, staged = some q ∧ q.status = .complete ∧ q.body.zoneCount = byteAt p 4 ∧ zones = q.body.zones := by
  unfold judgeBegin at h
  split at h
  · cases h
    exact .inl rfl
  · split at h
    · cases h
    · rename_i q
      split at h
      · cases h
      · rename_i complete
        split at h
        · rename_i same
          cases h
          exact .inr ⟨q, rfl, not_not.1 complete, same.1, rfl⟩
        · cases h

/-- A load that a Begin opens, over an open one or not (R43, R45). -/
theorem State.openLoad_towers {s : State} {i : TowerIx} {p : List Byte} {mode : LoadMode} {zones : List Nat}
    (checked : firstFailing (beginChecks p) = none)
    (judged : judgeBegin ((s.breakLoad i).tower i).staged p mode = .ok zones) (j : TowerIx) :
    TowerEffect .profileBegin s j
      (((s.breakLoad i).withTower i (((s.breakLoad i).tower i).openLoad (beginBody p mode zones))).tower j) := by
  have opened (values : zones = List.replicate (byteAt p 4) 0 ∨
      ∃ q, (s.tower i).staged = some q ∧ q.body.zoneCount = byteAt p 4 ∧ zones = q.body.zones) :=
    TowerEffect.load (s := s) (i := i) (LoadStep.opened (mode := mode) rfl checked values)
  rcases s.breakLoad_cases i with ⟨q, loading, e⟩ | ⟨-, e⟩
  · obtain ⟨staged, -⟩ := Tower.loading_eq_some.1 loading
    have tower (j : TowerIx) : (s.breakLoad i).tower j = if j = i then (s.tower i).closePartial else s.tower j := by
      rw [e, State.raise_tower, State.withTower_tower]
    have left : ((s.breakLoad i).tower i).staged = some { q with status := .incomplete } := by
      rw [tower, if_pos rfl, Tower.closePartial, staged]
      rfl
    refine TowerEffect.of_one (i := i) ?_ (fun k ne => ?_) j
    · rw [State.withTower_tower_self, tower, if_pos rfl]
      refine opened ?_
      rcases judgeBegin_zones judged with zero | ⟨q', is, complete, -⟩
      · exact .inl zero
      · rw [left] at is
        obtain rfl := Option.some.inj is
        cases complete
    · rw [State.withTower_tower, if_neg ne, tower, if_neg ne]
  · rw [e] at judged ⊢
    refine TowerEffect.of_withTower (opened ?_) j
    exact (judgeBegin_zones judged).imp id fun ⟨q, is, _, rest⟩ => ⟨q, is, rest⟩

theorem profileBeginRules_towers (s : State) (p : List Byte) (j : TowerIx) :
    TowerEffect .profileBegin s j ((profileBeginRules s p).state.tower j) := by
  unfold profileBeginRules
  split
  · exact .same
  · split
    · split
      · rename_i checked _
        dsimp only
        split
        · exact State.breakLoad_towers (.inl rfl) j
        · exact State.openLoad_towers checked ‹_› j
      · exact .same
      · exact .same
    · exact .same

theorem profileZonesRules_towers (s : State) (p : List Byte) (j : TowerIx) :
    TowerEffect .profileZones s j ((profileZonesRules s p).state.tower j) := by
  simp only [profileZonesRules]
  split
  · exact .same
  · rename_i i _
    split
    · exact .same
    · split
      · exact .same
      · rename_i q loading
        split
        · exact .same
        · rename_i inside
          have zone : ∀ n ∈ (if byteAt p 1 = 1 then some (byteAt p 2) else none), n < q.body.zoneCount := by
            intro n hn
            split at hn
            · obtain rfl := Option.some.inj hn
              exact not_le.1 fun above => inside ⟨‹_›, above⟩
            · cases hn
          generalize (if byteAt p 1 = 1 then some (byteAt p 2) else none) = start at zone ⊢
          have placed := TowerEffect.of_withTower (.load (s := s)
            (LoadStep.placed (values := u16Run (p.drop 3)) rfl loading zone)) j
          dsimp only
          split
          · rw [State.raise_tower]
            exact placed
          · exact placed

theorem profileEndRules_towers (s : State) (p : List Byte) (j : TowerIx) :
    TowerEffect .profileEnd s j ((profileEndRules s p).state.tower j) := by
  unfold profileEndRules
  split
  · exact .same
  · split
    · exact .same
    · rename_i q loading
      have ended := TowerEffect.of_withTower (.load (s := s) (LoadStep.ended rfl loading)) j
      dsimp only
      split
      · rw [State.raise_tower]
        exact ended
      · exact ended

/-- A tower that a commit accepts (R57). -/
theorem Tower.commitFault_eq_none {w : Tower} {job : Nat} {force : Bool} (h : w.commitFault job force = none) :
    w.setup.enabled = true ∧ ∃ q, w.staged = some q ∧ q.status ≠ .loading ∧ (q.status = .incomplete → force = true) ∧
      q.body.job = job := by
  unfold Tower.commitFault at h
  split at h
  · cases h
  · rename_i enabled
    split at h
    · cases h
    · rename_i q staged
      split at h
      · cases h
      · rename_i open'
        split at h
        · rename_i same
          obtain ⟨closed, forced⟩ := not_or.1 open'
          exact ⟨by simpa using enabled, q, staged, closed, fun e => by simpa [e] using forced, same⟩
        · cases h

/-- A key of a committed tower: its offsets cleared, recomputed, and noting the present sheet when it is SETTLED (R58,
R59). -/
def State.keyCommitted (s : State) (i : TowerIx) (v : Tower) (keepTrims : Bool) (k : Key) : Key :=
  let judged := s.keyRecomputed i v { k with corr := 0, keyTrim := if keepTrims then k.keyTrim else 0 }
  if judged.state = .settled then { judged with settledAt := some s.sheetCount } else judged

/-- A tower with its Staged profile made Active (R58). -/
def Tower.activated (w : Tower) (q : Staged) : Tower := { w with active := some q.activated, staged := none }

theorem State.committed_eq {s : State} {i : TowerIx} {q : Staged} (staged : (s.tower i).staged = some q) (keepTrims : Bool) :
    s.committed keepTrims i = { (s.tower i).activated q with
      keys := (s.tower i).keys.map (s.keyCommitted i ((s.tower i).activated q) keepTrims) } := by
  unfold State.committed State.withRecomputed Tower.stampSettled Tower.committed
  rw [staged]
  simp only [List.map_map]
  rfl

theorem State.committed_towers {s : State} {i : TowerIx} {job : Nat} {force : Bool}
    (accepted : (s.tower i).commitFault job force = none) (keepTrims : Bool) :
    TowerEffect .jobCommit s i (s.committed keepTrims i).derived := by
  obtain ⟨enabled, q, staged, closed, -⟩ := Tower.commitFault_eq_none accepted
  rw [State.committed_eq staged]
  refine .rekeyed (.commit rfl staged closed) enabled fun k _ => .inl ?_
  refine (s.keyRecomputed_by i _ k fun sound => ⟨?_, Nat.zero_le _⟩).stamped s.sheetCount
  split
  · exact sound.trim
  · decide

theorem jobCommitRules_towers (s : State) (p : List Byte) (j : TowerIx) :
    TowerEffect .jobCommit s j ((jobCommitRules s p).state.tower j) := by
  simp only [jobCommitRules]
  split
  · exact .same
  · split
    · exact .same
    · split
      · exact .same
      · split
        · exact .same
        · split
          · exact .same
          · rename_i accepted
            have each := (State.commitTower_reworks ((byteAt p 4).testBit 0)).foldl_tower
              (allTowers_filter_nodup fun t => (u16At p 0).testBit t.val) s j
            refine each ▸ ?_
            unfold State.reworked
            split
            · rename_i named
              refine State.committed_towers (job := u16At p 2) (force := (byteAt p 4).testBit 1) ?_ _
              simpa using List.findSome?_eq_none_iff.1 accepted j named.1
            · exact .same

/-! ### The Mode -/

theorem State.changeMode_towers {c : Instr} (s : State) (new : Mode) (j : TowerIx) :
    TowerEffect c s j ((s.changeMode new).tower j) := by
  unfold State.changeMode
  split
  · have each := State.passthroughTower_reworks.foldl_tower allTowers_nodup
      (s.withPress { s.press with mode := .passthrough }) j
    unfold State.enterPassthrough State.abandonRound
    rw [State.withPoller_tower, each]
    unfold State.reworked
    split
    · exact .records (Tower.passthrough_follows _ _)
    · exact .same
  · refine TowerEffect.of_towers ?_ j
    exact State.trigger_towers _
  · exact .same
  · exact .same

/-! ### All the kinds -/

theorem Manages.towers {c : Instr} {k : Kind} {rules : State → List Byte → Answer} (m : Manages c k rules)
    (other : c ≠ .curveLoad) (s : State) (p : List Byte) (j : TowerIx) : TowerEffect c s j ((rules s p).state.tower j) := by
  cases m with
  | curveLoad => exact absurd rfl other
  | towerSetup => exact towerSetupRules_towers s p j
  | towerTrim => exact towerTrimRules_towers s p j
  | profileBegin => exact profileBeginRules_towers s p j
  | profileZones => exact profileZonesRules_towers s p j
  | profileEnd => exact profileEndRules_towers s p j
  | jobCommit => exact jobCommitRules_towers s p j
  | keyTrim => exact keyTrimRules_towers s p j
  | densityReport => exact densityReportRules_towers s p j
  | faultClear => exact faultClearRules_towers s p j
  | sweepConfig =>
    unfold sweepConfigRules
    split <;> exact .same
  | pressState =>
    unfold pressStateRules
    split <;> exact .same
  | mode =>
    unfold modeRules
    split
    · exact .same
    · exact State.changeMode_towers s _ j
  | attentionConfig =>
    refine TowerEffect.of_towers ?_ j
    simp only [attentionConfigRules]
    repeat' split
    all_goals rfl
  | attentionPoll =>
    refine TowerEffect.of_towers ?_ j
    simp only [attentionPollRules]
    repeat' split
    all_goals rfl
  | restart =>
    unfold restartRules
    split <;> exact .same

end Sys2Proof.Machine
end

section
/-! PROOFS. Every command's effect on the curve library, the towers and the batch on the line. -/

namespace Sys2Proof.Machine

/-! ### CURVE_LOAD -/

/-- A curve record replaced by a sound curve, and the towers that use it recomputed (R34). -/
structure CurveLoaded (s u : State) (k : CurveIx) (curve : Curve) : Prop where
  sound : curve.ok
  curves : u.curves = s.curves.set k (some curve)
  users : ∀ i, (s.tower i).setup.enabled = true → (s.tower i).setup.curveId = k →
    u.tower i = ((s.withCurve k (some curve)).withRecomputed i (s.tower i)).derived
  others : ∀ i, ((s.tower i).setup.enabled = true → (s.tower i).setup.curveId ≠ k) → u.tower i = s.tower i

/-- A point may follow a Coverage; the first point has Coverage 0 (R33). -/
def Point.Follows (p : Point) : Option Nat → Prop
  | none => p.coverage = 0
  | some c => c < p.coverage

theorem ite_eq_none_iff {b : Bool} {P : Prop} (guard : b = true ↔ P) (x : Option Nat) (n : Nat) :
    (if b then x else some n) = none ↔ P ∧ x = none := by
  by_cases h : P
  · rw [if_pos (guard.2 h)]
    exact ⟨fun e => ⟨h, e⟩, And.right⟩
  · rw [if_neg (mt guard.1 h)]
    exact ⟨nofun, fun e => absurd e.1 h⟩

/-- The checks of a point and of the points after it (R33). -/
theorem badPoint_cons_eq_none {index : Nat} {previous : Option Nat} {p : Point} {ps : List Point} :
    badPoint index previous (p :: ps) = none ↔
      (p.Follows previous ∧ (ps = [] → p.coverage = 1000) ∧ p.opening ≤ 4000) ∧
        badPoint (index + 1) (some p.coverage) ps = none := by
  have last : (!ps.isEmpty || p.coverage == 1000) = true ↔ (ps = [] → p.coverage = 1000) := by
    cases ps <;> simp
  cases previous with
  | none =>
    refine ite_eq_none_iff ?_ _ _
    simp only [Bool.and_eq_true, last, Point.Follows, and_assoc, beq_iff_eq, decide_eq_true_eq]
    exact Iff.rfl
  | some c =>
    refine ite_eq_none_iff ?_ _ _
    simp only [Bool.and_eq_true, last, Point.Follows, and_assoc, decide_eq_true_eq]
    exact Iff.rfl

/-- The points of a curve that no check refuses: the Coverages ascend to 1000 from above the one before, the Openings are
openings (R33). -/
theorem points_of_badPoint {points : List Point} : ∀ {index : Nat} {previous : Option Nat},
    badPoint index previous points = none →
      (∀ p ∈ points.head?, p.Follows previous) ∧ (∀ p ∈ points.getLast?, p.coverage = 1000) ∧
        points.Pairwise (fun p q => p.coverage < q.coverage) ∧ ∀ p ∈ points, p.opening ≤ 4000 := by
  induction points with
  | nil => exact fun _ => ⟨nofun, nofun, .nil, nofun⟩
  | cons p ps ih =>
    intro index previous h
    obtain ⟨⟨start, last, opening⟩, good⟩ := badPoint_cons_eq_none.1 h
    obtain ⟨next, ending, ascending, openings⟩ := ih good
    refine ⟨?_, ?_, ?_, List.forall_mem_cons.2 ⟨opening, openings⟩⟩
    · intro q hq
      obtain rfl := Option.some.inj hq
      exact start
    · cases ps with
      | nil =>
        intro q hq
        obtain rfl := Option.some.inj hq
        exact last rfl
      | cons q qs => rwa [List.getLast?_cons_cons]
    · refine List.pairwise_cons.2 ⟨fun q hq => ?_, ascending⟩
      cases ps with
      | nil => cases hq
      | cons r rs =>
        have above : p.coverage < r.coverage := next r rfl
        rcases List.mem_cons.1 hq with rfl | later
        · exact above
        · exact above.trans ((List.pairwise_cons.1 ascending).1 q later)

theorem pointsOf_length : ∀ p : List Byte, (pointsOf p).length = p.length / 4
  | [] => by simp [pointsOf]
  | [_] => by simp [pointsOf]
  | [_, _] => by simp [pointsOf]
  | [_, _, _] => by simp [pointsOf]
  | _ :: _ :: _ :: _ :: rest => by
    rw [pointsOf, List.length_cons, pointsOf_length rest]
    simp only [List.length_cons]
    omega

/-- The curve of a CURVE_LOAD that no check refuses is as Table 2-3 gives it (R32, R33). -/
theorem curve_ok_of_badPoint {p : List Byte} (len : Kind.curveLoad.lengthOk p.length = true) {refSweep : Nat}
    (range : 20 ≤ refSweep ∧ refSweep ≤ 100) (good : badPoint 0 none (pointsOf (p.drop 2)) = none) :
    Curve.ok { refSweep := refSweep, points := pointsOf (p.drop 2) } := by
  have length : 2 ≤ (pointsOf (p.drop 2)).length ∧ (pointsOf (p.drop 2)).length ≤ 16 := by
    rw [pointsOf_length, List.length_drop]
    simp only [Kind.lengthOk, Bool.and_eq_true, decide_eq_true_eq] at len
    omega
  obtain ⟨first, last, ascending, openings⟩ := points_of_badPoint good
  have some : pointsOf (p.drop 2) ≠ [] := fun e => by rw [e] at length; exact absurd length.1 (by decide)
  refine ⟨range, length, ?_, ?_, ascending, openings⟩
  · obtain ⟨q, hq⟩ := Option.isSome_iff_exists.1 (List.isSome_head?.2 some)
    show Option.map _ (List.head? _) = _
    rw [hq]
    exact congrArg Option.some (first q hq)
  · obtain ⟨q, hq⟩ := Option.isSome_iff_exists.1 (List.getLast?_isSome.2 some)
    show Option.map _ (List.getLast? _) = _
    rw [hq]
    exact congrArg Option.some (last q hq)

theorem State.curveUsers_nodup (s : State) (k : CurveIx) : (s.curveUsers k).Nodup := allTowers_filter_nodup _

theorem State.mem_curveUsers {s : State} {k : CurveIx} {i : TowerIx} :
    i ∈ s.curveUsers k ↔ (s.tower i).setup.enabled = true ∧ (s.tower i).setup.curveId = k := by
  simp [State.curveUsers, mem_allTowers]

theorem curveLoadRules_loads {s : State} {p : List Byte} (len : Kind.curveLoad.lengthOk p.length = true) :
    (curveLoadRules s p).state = s ∨ ∃ k curve, CurveLoaded s (curveLoadRules s p).state k curve := by
  unfold curveLoadRules
  split
  · exact .inl rfl
  · rename_i k _
    split
    · rename_i range
      dsimp only
      split
      · exact .inl rfl
      · rename_i good
        have inRange : 20 ≤ byteAt p 1 ∧ byteAt p 1 ≤ 100 := by simpa [inRange] using range
        obtain ⟨curve, hcurve⟩ : ∃ c : Curve, c = { refSweep := byteAt p 1, points := pointsOf (p.drop 2) } := ⟨_, rfl⟩
        rw [← hcurve]
        have each := State.recomputeTower_reworks.foldl_tower (s.curveUsers_nodup k) (s.withCurve k (some curve))
        refine .inr ⟨k, curve, hcurve ▸ curve_ok_of_badPoint len inRange good, ?_, fun i enabled uses => ?_,
          fun i other => ?_⟩
        · have kept := State.foldl_bare State.recomputeTower_bare (s.curveUsers k) (s.withCurve k (some curve))
          exact (State.bare_eq_iff.1 kept).2.2.2.1
        · rw [each]
          exact if_pos ⟨State.mem_curveUsers.2 ⟨enabled, uses⟩, rfl⟩
        · rw [each]
          exact if_neg fun m => other (State.mem_curveUsers.1 m.1).1 (State.mem_curveUsers.1 m.1).2
    · exact .inl rfl

/-! ### The events of the drive line -/

theorem State.guarded_eq_some {s : State} {dest : Byte} {generation : Nat} {i : TowerIx} {g : GroupIx} {r : Group}
    (h : s.guarded dest generation = some (i, g, r)) :
    dest = nodeAddress i g ∧ (s.tower i).group? g = some r ∧ r.generation = generation := by
  unfold State.guarded at h
  split at h
  · cases h
  · rename_i parts
    split at h
    · rename_i record
      split at h
      · rename_i same
        cases h
        exact ⟨nodeParts_eq_some.1 parts, record, same⟩
      · cases h
    · cases h

theorem State.haltEffects_towers {c : Instr} {s v : State} (same : v.towers = s.towers) (j : TowerIx) :
    TowerEffect c s j (v.haltEffects.tower j) := by
  have each := State.haltTower_reworks.foldl_tower allTowers_nodup v j
  have tower : v.tower j = s.tower j := congrArg (fun towers => towers[j]) same
  unfold State.haltEffects
  rw [each]
  unfold State.reworked
  dsimp only
  rw [tower]
  split
  · exact .records (Tower.halted_follows _ _)
  · exact .same

theorem State.motionExpired_towers {c : Instr} (s : State) (i : TowerIx) (g : GroupIx) (j : TowerIx) :
    TowerEffect c s j ((s.motionExpired i g).tower j) := by
  simp only [State.motionExpired]
  split
  · exact .same
  · exact TowerEffect.of_raiseAll (.records (Tower.applyMotionExpiry_follows _ _ g)) _ j

theorem State.warmRestart_towers (s : State) (h : HoldLevel) (i : TowerIx) :
    (s.warmRestart h).tower i = (s.tower i).warm (s.curve (s.tower i).setup.curveId) := by
  have read (curve : CurveIx → Option Curve) (hc : curve = s.curve) (u : State) (hu : u.curve = s.curve) :
      (allTowers.foldl State.warmTower u).tower i = (u.tower i).warm (curve (u.tower i).setup.curveId) := by
    have same : ∀ (ts : List TowerIx) (v : State), v.curve = s.curve → ts.foldl State.warmTower v =
        ts.foldl (fun v j => v.withTower j ((v.tower j).warm (curve (v.tower j).setup.curveId))) v := by
      intro ts
      induction ts with
      | nil => exact fun v _ => rfl
      | cons j ts ih =>
        intro v hv
        rw [List.foldl_cons, List.foldl_cons, ih (v.warmTower j) hv]
        unfold State.warmTower
        rw [hv, hc]
    rw [same allTowers u hu]
    exact (State.foldl_allTowers (fun _ w => w.warm (curve w.setup.curveId)) u).1 i
  have towers : (s.warmRestart h).towers = (allTowers.foldl State.warmTower (s.warmBlocks h)).towers :=
    State.startRound_towers _
  have tower : (s.warmRestart h).tower i = (allTowers.foldl State.warmTower (s.warmBlocks h)).tower i :=
    congrArg (fun towers => towers[i]) towers
  rw [tower, read s.curve rfl (s.warmBlocks h) rfl]
  rfl

/-! ### All the commands -/

theorem State.endForward_towers (s : State) (t : Telegram) : (s.endForward t).towers = s.towers := by
  unfold State.endForward
  dsimp only
  split <;> rfl

theorem State.route_towers (s : State) (t : Telegram) : (s.route t).towers = s.towers := by
  rcases s.route_cases t with e | ⟨_, _, _, e⟩ | e | ⟨_, _, e⟩ | ⟨_, _, e⟩ | ⟨-, e⟩ <;> rw [e]
  · rfl
  · rfl
  · rfl
  · exact State.raise_towers _ _ _
  · rfl

theorem State.consoleArrival_towers (s : State) (t : Telegram) : (s.consoleArrival t).towers = s.towers := by
  have placed : (s.linkArrival.placeInbound t).towers = s.towers := by
    unfold State.placeInbound
    split
    · rfl
    · exact State.raise_towers _ _ _
  have notice (u : State) : u.restorationNotice.towers = u.towers := by
    unfold State.restorationNotice
    split
    · rfl
    · split
      · rfl
      · split <;> rfl
  simp only [State.consoleArrival]
  split
  · exact (notice _).trans placed
  · exact placed

theorem State.purgeMoves_towers (s : State) : s.purgeMoves.towers = s.towers := by
  obtain ⟨sent, e⟩ := s.purgeMoves_eq
  rw [e]
  rfl

theorem State.pollerSheet_towers (s : State) : s.pollerSheet.towers = s.towers := by
  unfold State.pollerSheet
  split
  · rfl
  · dsimp only
    split
    · exact State.trigger_towers _
    · rfl

theorem State.sweepExpired_towers (s : State) : s.sweepExpired.towers = s.towers := by
  unfold State.sweepExpired
  split
  · rfl
  · exact State.trigger_towers _

theorem Effect.towers {c : Instr} {s u : State} (e : Effect c s u) :
    (∃ h, c = .coldRestart h ∧ u = s.powerOn h) ∨ (c = .curveLoad ∧ ∃ k curve, CurveLoaded s u k curve) ∨
      ∀ i, TowerEffect c s i (u.tower i) := by
  have plain {v : State} (h : v.towers = s.towers) : (∃ h, c = .coldRestart h ∧ v = s.powerOn h) ∨
      (c = .curveLoad ∧ ∃ k curve, CurveLoaded s v k curve) ∨ ∀ i, TowerEffect c s i (v.tower i) :=
    .inr (.inr (TowerEffect.of_towers h))
  cases e with
  | coldRestart due => exact .inl ⟨_, rfl, rfl⟩
  | managed m hand kind len =>
    by_cases load : c = .curveLoad
    · subst load
      cases m
      rcases curveLoadRules_loads (s := s) len with same | ⟨k, curve, loaded⟩
      · have towers := congrArg State.towers same
        exact .inr (.inr (TowerEffect.of_towers towers))
      · exact .inr (.inl ⟨rfl, k, curve, loaded.sound, loaded.curves, loaded.users, loaded.others⟩)
    · exact .inr (.inr (m.towers load s _))
  | idleExpiry => exact .inr (.inr (State.breakLoad_towers (.inr rfl)))
  | warmRestart due =>
    refine .inr (.inr fun i => ?_)
    rw [State.warmRestart_towers]
    exact .warm rfl
  | haltSent line => exact .inr (.inr (State.haltEffects_towers (by rfl)))
  | moveAccepted line guard =>
    refine .inr (.inr (TowerEffect.of_derivePhase (.records (Tower.applyAccept_follows _ _ fun ok => ?_))))
    unfold State.batchOk at ok
    rwa [line] at ok
  | moveRejected line guard =>
    exact .inr (.inr (TowerEffect.of_derivePhase (.records (Tower.applyReject_follows _ _ _ _ _ _))))
  | moveMissed line guard =>
    obtain ⟨-, record, -⟩ := State.guarded_eq_some guard
    exact .inr (.inr (TowerEffect.of_raiseAll (.records (Tower.moveMissed_follows _ record _ _)) _))
  | statusTaken line guard =>
    obtain ⟨-, record, -⟩ := State.guarded_eq_some guard
    refine .inr (.inr fun j => ?_)
    have same (v : State) : (v.pollEnded.withLine .free).tower j = v.tower j :=
      congrArg (fun towers => towers[j]) v.pollEnded_towers
    rw [same]
    exact TowerEffect.of_raiseAll (.records (Tower.applyStatus_follows s.batchOk record _ _ s.sheetCount)) _ j
  | statusMissed line guard =>
    obtain ⟨-, record, -⟩ := State.guarded_eq_some guard
    refine .inr (.inr fun j => ?_)
    have same (v : State) : (v.pollEnded.withLine .free).tower j = v.tower j :=
      congrArg (fun towers => towers[j]) v.pollEnded_towers
    rw [same]
    exact TowerEffect.of_raiseAll (.records (Tower.statusMissed_follows s.batchOk record)) _ j
  | motionExpired => exact .inr (.inr (s.motionExpired_towers _ _))
  | idle => exact plain rfl
  | answered hand => exact plain rfl
  | nresetAssert => exact plain rfl
  | consoleArrival valid => exact plain (State.consoleArrival_towers _ _)
  | consoleInvalid => exact plain (State.raise_towers _ _ _)
  | silenceExpired link => exact plain (State.raise_towers _ _ _)
  | transmitted queue => exact plain rfl
  | handlerTake inbound ready place => exact plain (State.route_towers _ _)
  | haltGrant free chosen => exact plain rfl
  | forwardGrant free chosen queue =>
    unfold State.sendForward
    split <;> exact plain rfl
  | sweepGrant free chosen current record => exact plain rfl
  | moveGrant free chosen first lowest record => exact plain rfl
  | windowOpens line => exact plain rfl
  | abandonedSent line => exact plain rfl
  | broadcastSent line => exact plain rfl
  | warmHaltSent line => exact plain rfl
  | gapEnd line => exact plain rfl
  | moveStray line => exact plain rfl
  | statusStray line => exact plain s.pollEnded_towers
  | forwardEnded line => exact plain (State.endForward_towers _ _)
  | sweepExpired running => exact plain s.sweepExpired_towers
  | sheetPulse => exact plain (State.pollerSheet_towers _)
  | holdAsserted hold => exact plain ((State.raise_towers _ _ _).trans (State.purgeMoves_towers _))
  | holdReleased hold => exact plain (State.raise_towers _ _ _)

end Sys2Proof.Machine
end

section
/-! PROOFS. Curves, setups and profiles through a step (Tables 2-1, 2-3 and 3-1). -/

namespace Sys2Proof.Machine

/-! ### The curve library -/

theorem State.warmRestart_curves (s : State) (h : HoldLevel) : (s.warmRestart h).curves = s.curves := by
  rw [(State.bare_eq_iff.1 (s.warmRestart_bare h)).2.2.2.1]
  rfl

theorem Manages.curves_kept {c : Instr} {k : Kind} {rules : State → List Byte → Answer} (m : Manages c k rules)
    (other : c ≠ .curveLoad) (s : State) (p : List Byte) : (rules s p).state.curves = s.curves := by
  have field {u v : State} (e : u.bare = v.bare) : u.curves = v.curves := (State.bare_eq_iff.1 e).2.2.2.1
  rcases m.bare_cases s p with e | ⟨-, e⟩ | ⟨is, e⟩ | ⟨-, q, e⟩ | ⟨-, q, e⟩ | ⟨-, q, e⟩
  · exact (field e :)
  · exact (field e :)
  · exact absurd is other
  · exact (field e :)
  · exact (field e :)
  · rw [e]
    rfl

theorem State.curves_of_bare {s t : State} (h : s.bare = t.bare) : s.curves = t.curves :=
  (State.bare_eq_iff.1 h).2.2.2.1

theorem State.raise_curves (s : State) (i : SourceIx) (d : Detail) : (s.raise i d).curves = s.curves :=
  State.curves_of_bare (s.raise_bare i d)

theorem State.pollEnded_curves (s : State) : s.pollEnded.curves = s.curves :=
  State.curves_of_bare (t := s.withPoller s.pollEnded.poller) s.pollEnded_bare

theorem State.trigger_curves (s : State) : s.trigger.curves = s.curves :=
  State.curves_of_bare (t := s.withPoller s.trigger.poller) s.trigger_bare

/-- CURVE_LOAD and COLD apart, no command touches the curve library (R36). -/
theorem Effect.curves {c : Instr} {s u : State} (e : Effect c s u) (load : c ≠ .curveLoad)
    (cold : ∀ h, c ≠ .coldRestart h) : u.curves = s.curves := by
  cases e with
  | coldRestart due => exact absurd rfl (cold _)
  | managed m hand kind len => exact (m.curves_kept load s _ :)
  | idleExpiry => exact State.curves_of_bare (s.breakLoad_bare _)
  | warmRestart due => exact s.warmRestart_curves _
  | haltSent line => exact (State.curves_of_bare (State.haltEffects_bare _)).trans rfl
  | moveAccepted line guard =>
    show (State.derivePhase _ _).curves = _
    exact (State.curves_of_bare (State.derivePhase_bare _ _)).trans rfl
  | moveRejected line guard =>
    show (State.derivePhase _ _).curves = _
    exact (State.curves_of_bare (State.derivePhase_bare _ _)).trans rfl
  | moveMissed line guard =>
    show (State.applyExpiry _ _ _ _).curves = _
    exact State.curves_of_bare (State.applyExpiry_bare _ _ _ _)
  | statusTaken line guard =>
    exact (State.pollEnded_curves _).trans (State.curves_of_bare (State.applyStatus_bare _ _ _ _ _ _))
  | statusMissed line guard =>
    exact (State.pollEnded_curves _).trans (State.curves_of_bare (State.applyExpiry_bare _ _ _ _))
  | statusStray line => exact State.pollEnded_curves _
  | motionExpired => exact State.curves_of_bare (s.motionExpired_bare _ _)
  | idle => rfl
  | answered hand => rfl
  | nresetAssert => rfl
  | consoleArrival valid =>
    have placed (t : Telegram) : (s.linkArrival.placeInbound t).curves = s.curves := by
      unfold State.placeInbound
      split
      · rfl
      · exact State.raise_curves _ _ _
    simp only [State.consoleArrival]
    split
    · unfold State.restorationNotice
      split
      · exact placed _
      · split
        · exact placed _
        · split <;> exact placed _
    · exact placed _
  | consoleInvalid => exact State.raise_curves _ _ _
  | silenceExpired link => exact State.raise_curves _ _ _
  | transmitted queue => rfl
  | handlerTake inbound ready place =>
    rcases State.route_cases (s.taken _ _) _ with e | ⟨_, _, _, e⟩ | e | ⟨_, _, e⟩ | ⟨_, _, e⟩ | ⟨-, e⟩ <;> rw [e]
    · rfl
    · rfl
    · rfl
    · rfl
    · exact State.raise_curves _ _ _
    · rfl
  | haltGrant free chosen => rfl
  | forwardGrant free chosen queue =>
    unfold State.sendForward
    split <;> rfl
  | sweepGrant free chosen current record => rfl
  | moveGrant free chosen first lowest record => rfl
  | windowOpens line => rfl
  | abandonedSent line => rfl
  | broadcastSent line => rfl
  | warmHaltSent line => rfl
  | gapEnd line => rfl
  | moveStray line => rfl
  | forwardEnded line =>
    simp only [State.endForward]
    split <;> rfl
  | sweepExpired running =>
    unfold State.sweepExpired
    split
    · rfl
    · exact State.trigger_curves _
  | sheetPulse =>
    unfold State.pollerSheet
    split
    · rfl
    · dsimp only
      split
      · exact State.trigger_curves _
      · rfl
  | holdAsserted hold =>
    obtain ⟨sent, purged⟩ := State.purgeMoves_eq
      ((s.withPress { s.press with hold := .asserted }).withDrive { s.drive with haltPending := true })
    rw [State.raise_curves, purged]
    rfl
  | holdReleased hold => exact State.raise_curves _ _ _

/-- What an event makes of the curve library and the towers. -/
theorem Effect.tables {c : Instr} {s u : State} (e : Effect c s u) :
    (∃ h, c = .coldRestart h ∧ u = s.powerOn h) ∨ (c = .curveLoad ∧ ∃ k curve, CurveLoaded s u k curve) ∨
      u.curves = s.curves ∧ ∀ i, TowerEffect c s i (u.tower i) := by
  by_cases load : c = .curveLoad
  · subst load
    rcases e.towers with ⟨_, is, _⟩ | loaded | towers
    · cases is
    · exact .inr (.inl loaded)
    · cases e with
      | managed m hand kind len =>
        cases m
        rcases curveLoadRules_loads (s := s) len with same | ⟨k, curve, loaded⟩
        · have curves := congrArg State.curves same
          exact .inr (.inr ⟨curves, towers⟩)
        · exact .inr (.inl ⟨rfl, k, curve, loaded.sound, loaded.curves, loaded.users, loaded.others⟩)
      | idle => exact .inr (.inr ⟨rfl, towers⟩)
      | answered hand => exact .inr (.inr ⟨rfl, towers⟩)
      | moveStray line => exact .inr (.inr ⟨rfl, towers⟩)
      | statusStray line => exact .inr (.inr ⟨s.pollEnded_curves, towers⟩)
      | forwardEnded line =>
        refine .inr (.inr ⟨?_, towers⟩)
        simp only [State.endForward]
        split <;> rfl
  · rcases e.towers with cold | ⟨is, -⟩ | towers
    · exact .inl cold
    · exact absurd is load
    · by_cases cold : ∃ h, c = .coldRestart h
      · obtain ⟨h, rfl⟩ := cold
        cases e with
        | coldRestart due => exact .inl ⟨_, rfl, rfl⟩
        | idle => exact .inr (.inr ⟨rfl, towers⟩)
        | managed m hand kind len => cases m
        | answered hand => exact .inr (.inr ⟨rfl, towers⟩)
        | moveStray line => exact .inr (.inr ⟨rfl, towers⟩)
        | statusStray line => exact .inr (.inr ⟨s.pollEnded_curves, towers⟩)
        | forwardEnded line =>
          refine .inr (.inr ⟨?_, towers⟩)
          simp only [State.endForward]
          split <;> rfl
      · exact .inr (.inr ⟨e.curves load (not_exists.1 cold), towers⟩)

/-! ### The fields of a tower after one event -/

theorem Tower.Follows.fields {targets : Prop} {w w' : Tower} (h : w.Follows targets w') :
    w'.setup = w.setup ∧ w'.generation = w.generation ∧ w'.staged = w.staged ∧ w'.active = w.active ∧ w'.idle = w.idle := by
  rw [h.frame]
  exact ⟨rfl, rfl, rfl, rfl, rfl⟩

theorem Tower.warm_fields (w : Tower) (curve : Option Curve) :
    (w.warm curve).setup = w.setup ∧ (w.warm curve).staged = none ∧ (w.warm curve).idle = none ∧
      (w.warm curve).active = w.active := by
  simp only [Tower.warm]
  split <;> exact ⟨rfl, rfl, rfl, rfl⟩

/-- The setup of a tower changes with TOWER_SETUP, and its sweep and trim with TOWER_TRIM (R23, R27). -/
theorem TowerEffect.setup_cases {c : Instr} {s : State} {i : TowerIx} {w' : Tower} (e : TowerEffect c s i w') :
    w'.setup = (s.tower i).setup ∨
      (c = .towerSetup ∧ ∃ p, firstFailing (s.setupChecks p) = none ∧ w'.setup = setupOf p) ∨
      (c = .towerTrim ∧ ∃ sweep trim, (20 ≤ sweep ∧ sweep ≤ 100) ∧ (50 ≤ trim ∧ trim ≤ 200) ∧
        w'.setup = { (s.tower i).setup with sweep := sweep, towerTrim := trim }) := by
  cases e with
  | same => exact .inl rfl
  | setup is checked => exact .inr (.inl ⟨is, _, checked, rfl⟩)
  | rekeyed retuned enabled keys =>
    cases retuned with
    | same => exact .inl rfl
    | trim is sweeps trims => exact .inr (.inr ⟨is, _, _, sweeps, trims, rfl⟩)
    | commit is staged closed => exact .inl rfl
  | load step => exact .inl rfl
  | records follows => exact .inl follows.fields.1
  | warm is => exact .inl (Tower.warm_fields _ _).1

/-- The profiles of a tower change with the commands of a load, a commit, a setup and WARM (R39, R41). -/
theorem TowerEffect.profile_cases {c : Instr} {s : State} {i : TowerIx} {w' : Tower} (e : TowerEffect c s i w') :
    let w := s.tower i
    (w'.staged = w.staged ∧ w'.active = w.active ∧ w'.idle = w.idle) ∨
      (c = .towerSetup ∧ w'.staged = none ∧ w'.active = none ∧ w'.idle = none) ∨
      (c = .jobCommit ∧ ∃ q, w.staged = some q ∧ q.status ≠ .loading ∧
        w'.staged = none ∧ w'.active = some q.activated ∧ w'.idle = w.idle) ∨
      (LoadStep c i w w'.staged w'.idle ∧ w'.active = w.active) ∨
      ((∃ h, c = .warmRestart h) ∧ w'.staged = none ∧ w'.active = w.active ∧ w'.idle = none) := by
  cases e with
  | same => exact .inl ⟨rfl, rfl, rfl⟩
  | setup is checked => exact .inr (.inl ⟨is, rfl, rfl, rfl⟩)
  | rekeyed retuned enabled keys =>
    cases retuned with
    | same => exact .inl ⟨rfl, rfl, rfl⟩
    | trim is sweeps trims => exact .inl ⟨rfl, rfl, rfl⟩
    | commit is staged closed => exact .inr (.inr (.inl ⟨is, _, staged, closed, rfl, rfl, rfl⟩))
  | load step => exact .inr (.inr (.inr (.inl ⟨step, rfl⟩)))
  | records follows =>
    obtain ⟨-, -, staged, active, idle⟩ := follows.fields
    exact .inl ⟨staged, active, idle⟩
  | warm is =>
    obtain ⟨-, staged, idle, active⟩ := Tower.warm_fields (s.tower i) (s.curve (s.tower i).setup.curveId)
    exact .inr (.inr (.inr (.inr ⟨⟨_, is⟩, staged, active, idle⟩)))

/-! ### Tables 2-1 and 2-3 -/

theorem firstFailing_eq_none {checks : List (Nat × Bool)} : firstFailing checks = none ↔ ∀ c ∈ checks, c.2 = true := by
  simp [firstFailing]

theorem inRange_iff {lo hi n : Nat} : inRange lo hi n = true ↔ lo ≤ n ∧ n ≤ hi := by simp [inRange]

theorem inRangeInt_iff {lo hi n : Int} : inRangeInt lo hi n = true ↔ lo ≤ n ∧ n ≤ hi := by simp [inRangeInt]

/-- A setup that no check refuses is in the ranges of Table 2-1 and, when it enables the tower, names a LOADED curve (R22). -/
theorem setupOf_sound {s : State} {p : List Byte} (checked : firstFailing (s.setupChecks p) = none) :
    (setupOf p).inRanges ∧ ((setupOf p).enabled = true → (s.curve (setupOf p).curveId).isSome = true) := by
  have each := firstFailing_eq_none.1 checked
  simp only [State.setupChecks, List.forall_mem_cons, inRange_iff, inRangeInt_iff] at each
  obtain ⟨-, -, keyCount, keyPitch, plateOffset, curveId, ⟨-, minOpening⟩, tolerance, replyWindow, motionLimit, ⟨-, gain⟩,
    ⟨-, deadBand⟩, ⟨-, stepLimit⟩, ⟨-, corrLimit⟩, ⟨-, lagSheets⟩, sweep, towerTrim, -⟩ := each
  refine ⟨⟨keyCount, keyPitch, plateOffset, minOpening, tolerance, replyWindow, motionLimit, gain, deadBand, stepLimit,
    corrLimit, lagSheets, sweep, towerTrim⟩, fun enabled => ?_⟩
  have one : byteAt p 1 = 1 := eq_of_beq enabled
  unfold State.curveIdOk at curveId
  split at curveId
  · rename_i i is
    simpa [setupOf, is, one] using curveId
  · cases curveId

theorem State.curve_set {s u : State} {k : CurveIx} {curve : Curve} (h : u.curves = s.curves.set k (some curve))
    (i : CurveIx) : u.curve i = if i = k then some curve else s.curve i := by
  unfold State.curve
  rw [h]
  show (s.curves.set k.val (some curve))[i.val] = _
  rw [Vector.getElem_set]
  by_cases same : i = k
  · rw [if_pos (congrArg Fin.val same.symm), if_pos same]
  · rw [if_neg fun e => same (Fin.ext e.symm), if_neg same]
    rfl

theorem CurveLoaded.curve {s u : State} {k : CurveIx} {curve : Curve} (h : CurveLoaded s u k curve) (i : CurveIx) :
    u.curve i = if i = k then some curve else s.curve i := State.curve_set h.curves i

/-- A curve that is LOADED stays LOADED. -/
theorem CurveLoaded.isSome {s u : State} {k : CurveIx} {curve : Curve} (h : CurveLoaded s u k curve) {i : CurveIx}
    (loaded : (s.curve i).isSome = true) : (u.curve i).isSome = true := by
  rw [h.curve]
  split
  · rfl
  · exact loaded

/-- A load of a curve recomputes a tower or leaves it alone (R34). -/
theorem CurveLoaded.tower {s u : State} {k : CurveIx} {curve : Curve} (h : CurveLoaded s u k curve) (i : TowerIx) :
    (u.tower i = s.tower i ∧ ((s.tower i).setup.enabled = true → (s.tower i).setup.curveId ≠ k)) ∨
      ((s.tower i).setup.enabled = true ∧ (s.tower i).setup.curveId = k ∧
        u.tower i = ((s.withCurve k (some curve)).withRecomputed i (s.tower i)).derived) := by
  by_cases uses : (s.tower i).setup.enabled = true ∧ (s.tower i).setup.curveId = k
  · exact .inr ⟨uses.1, uses.2, h.users i uses.1 uses.2⟩
  · have other := fun enabled same => uses ⟨enabled, same⟩
    exact .inl ⟨h.others i other, other⟩

theorem Setup.inRanges_trimmed {u : Setup} (h : u.inRanges) {sweep trim : Nat} (sweeps : 20 ≤ sweep ∧ sweep ≤ 100)
    (trims : 50 ≤ trim ∧ trim ≤ 200) : ({ u with sweep := sweep, towerTrim := trim } : Setup).inRanges := by
  obtain ⟨h1, h2, h3, h4, h5, h6, h7, h8, h9, h10, h11, h12, -, -⟩ := h
  exact ⟨h1, h2, h3, h4, h5, h6, h7, h8, h9, h10, h11, h12, sweeps, trims⟩

/-- Every tower's setup is in its ranges and names a LOADED curve, when the tower is enabled. -/
theorem Effect.tablesOk {c : Instr} {s u : State} (h : s.tablesOk) (e : Effect c s u) : u.tablesOk := by
  obtain ⟨curves, setups⟩ := h
  rcases e.tables with ⟨level, -, rfl⟩ | ⟨-, k, curve, loaded⟩ | ⟨same, towers⟩
  · exact ⟨fun i c hc => by simp [State.powerOn, State.curve, State.reset] at hc,
      fun i enabled => by simp [State.powerOn, State.tower, State.reset, Tower.off, Setup.zero] at enabled⟩
  · refine ⟨fun i c hc => ?_, fun i => ?_⟩
    · rw [loaded.curve] at hc
      split at hc
      · obtain rfl := Option.some.inj hc
        exact loaded.sound
      · exact curves i c hc
    · have setup : (u.tower i).setup = (s.tower i).setup := by
        rcases loaded.tower i with ⟨e, -⟩ | ⟨-, -, e⟩ <;> rw [e]
        rfl
      rw [setup]
      exact fun enabled => ⟨(setups i enabled).1, loaded.isSome (setups i enabled).2⟩
  · have curve (i : CurveIx) : u.curve i = s.curve i := congrArg (fun curves => curves[i]) same
    refine ⟨fun i c hc => curves i c (curve i ▸ hc), fun i enabled => ?_⟩
    rw [curve]
    rcases (towers i).setup_cases with e | ⟨-, p, checked, e⟩ | ⟨-, sweep, trim, sweeps, trims, e⟩ <;>
      rw [e] at enabled ⊢
    · exact setups i enabled
    · exact ⟨(setupOf_sound checked).1, (setupOf_sound checked).2 enabled⟩
    · exact ⟨Setup.inRanges_trimmed (setups i enabled).1 sweeps trims, (setups i enabled).2⟩

theorem State.countDown_tower (s : State) (i : TowerIx) : s.countDown.tower i = (s.tower i).tick := by
  unfold State.countDown
  generalize hv : ({ s with console := _, drive := _, poller := _ } : State) = v
  have tower : v.tower i = s.tower i := by rw [← hv]; rfl
  rw [← tower]
  exact (State.foldl_allTowers (fun _ w => w.tick) v).1 i

/-- A millisecond touches the timers of a tower alone. -/
theorem State.tick_tower (s : State) (i : TowerIx) : s.tick.tower i = s.tower i ∨ s.tick.tower i = (s.tower i).tick := by
  rcases s.tick_eq with ⟨e, -⟩ | ⟨e, -⟩ <;> rw [e]
  · exact .inl rfl
  · exact .inr ((State.withPending_tower _ _ _).trans (s.countDown_tower i))

theorem State.tick_curves (s : State) : s.tick.curves = s.curves := by
  rcases s.tick_eq with ⟨e, -⟩ | ⟨e, -⟩ <;> rw [e]
  rw [State.withPending_curves]
  exact (State.curves_of_bare s.countDown_bare).trans rfl

theorem tablesOk_kept : Keeps State.tablesOk := by
  refine keeps_of_effects (fun _ _ h => h) (fun s level => ?_) (fun s h => ?_) (fun _ _ h _ => h) (fun _ h => h)
    fun _ _ _ h _ e => e.tablesOk h
  · exact ⟨fun i c hc => by simp [State.powerOn, State.curve, State.reset] at hc,
      fun i enabled => by simp [State.powerOn, State.tower, State.reset, Tower.off, Setup.zero] at enabled⟩
  · have curve (i : CurveIx) : s.tick.curve i = s.curve i := congrArg (fun curves => curves[i]) s.tick_curves
    refine ⟨fun i c hc => h.1 i c (curve i ▸ hc), fun i => ?_⟩
    have setup : (s.tick.tower i).setup = (s.tower i).setup := by
      rcases s.tick_tower i with e | e <;> rw [e]
      rfl
    rw [setup, curve]
    exact h.2 i

end Sys2Proof.Machine
end

section
/-! PROOFS. The profiles through a step (Table 3-1), and with them the tables of chapters 2 and 3. -/

namespace Sys2Proof.Machine

/-! ### Loads -/

/-- A Staged profile as Table 3-1 gives it. -/
structure Staged.Sound (q : Staged) : Prop where
  body : q.body.ok
  marks : q.written.length = q.body.zoneCount
  pointer : q.pointer ≤ q.body.zoneCount

/-- The profiles of a tower as Table 3-1 gives them, with the idle timer of an open load (R52). -/
structure Tower.ProfilesSound (w : Tower) : Prop where
  staged : ∀ q ∈ w.staged, q.Sound
  active : ∀ a ∈ w.active, a.body.ok
  idle : w.idle.isSome = w.loading.isSome

theorem State.profilesOk_iff {s : State} : s.profilesOk ↔ ∀ i, (s.tower i).ProfilesSound := by
  constructor
  · intro h i
    obtain ⟨staged, active, idle⟩ := h i
    exact ⟨fun q hq => ⟨(staged q hq).1, (staged q hq).2.1, (staged q hq).2.2⟩, active, idle⟩
  · intro h i
    exact ⟨fun q hq => ⟨((h i).staged q hq).body, ((h i).staged q hq).marks, ((h i).staged q hq).pointer⟩,
      (h i).active, (h i).idle⟩

theorem Tower.ProfilesSound.congr {w w' : Tower} (h : w.ProfilesSound) (staged : w'.staged = w.staged)
    (active : w'.active = w.active) (idle : w'.idle.isSome = w.idle.isSome) : w'.ProfilesSound := by
  refine ⟨staged ▸ h.staged, active ▸ h.active, ?_⟩
  rw [idle, h.idle, Tower.loading, Tower.loading, staged]

/-- A tower with the given profiles, closed: no load is open and the idle timer is stopped. -/
theorem Tower.ProfilesSound.closed {w : Tower} (staged : ∀ q ∈ w.staged, q.Sound ∧ q.status ≠ .loading)
    (active : ∀ a ∈ w.active, a.body.ok) (idle : w.idle = none) : w.ProfilesSound := by
  refine ⟨fun q hq => (staged q hq).1, active, ?_⟩
  have noLoad : w.loading = none := by
    cases loading : w.loading with
    | none => rfl
    | some q =>
      obtain ⟨is, open'⟩ := Tower.loading_eq_some.1 loading
      exact absurd open' (staged q is).2
  rw [idle, noLoad]
  rfl

/-- A tower with an open load and its idle timer running. -/
theorem Tower.ProfilesSound.open {w : Tower} {q : Staged} (staged : w.staged = some q) (sound : q.Sound)
    (loading : q.status = .loading) (active : ∀ a ∈ w.active, a.body.ok) {n : Nat} (idle : w.idle = some n) :
    w.ProfilesSound := by
  refine ⟨fun p hp => ?_, active, ?_⟩
  · rw [staged] at hp
    obtain rfl := Option.some.inj hp
    exact sound
  · rw [idle, Tower.loading_eq_some.2 ⟨staged, loading⟩]
    rfl

/-! ### PROFILE_ZONES (R48, R49) -/

theorem Staged.Sound.store {q : Staged} (h : q.Sound) {v : Nat} (range : v ≤ 1000) (room : q.pointer < q.body.zoneCount) :
    (q.store v).Sound := by
  obtain ⟨job, zoneCount, zonePitch, zoneOrigin, sheet, right, length, zones, clamped, overrun⟩ := h.body
  refine ⟨⟨job, zoneCount, zonePitch, zoneOrigin, sheet, right, ?_, fun u hu => ?_, clamped, overrun⟩, ?_, room⟩
  · exact List.length_set.trans length
  · rcases List.mem_or_eq_of_mem_set hu with old | rfl
    · exact zones u old
    · exact range
  · exact List.length_set.trans h.marks

theorem Placing.place_sound {a : Placing} (h : a.staged.Sound) (v : Nat) :
    (a.place v).staged.Sound ∧ (a.place v).staged.status = a.staged.status := by
  obtain ⟨job, zoneCount, zonePitch, zoneOrigin, sheet, right, length, zones, clamped, overrun⟩ := h.body
  simp only [Placing.place]
  split
  · refine ⟨⟨?_, h.marks, h.pointer⟩, rfl⟩
    exact ⟨job, zoneCount, zonePitch, zoneOrigin, sheet, right, length, zones, clamped, satAdd_le overrun⟩
  · rename_i room
    have room := Nat.lt_of_not_le room
    split
    · exact ⟨⟨h.body, h.marks, room⟩, rfl⟩
    · split
      · rename_i range
        exact ⟨h.store range room, rfl⟩
      · have counted : ({ a.staged with
            body := { a.staged.body with clampedCount := satAdd a.staged.body.clampedCount } } : Staged).Sound :=
          ⟨⟨job, zoneCount, zonePitch, zoneOrigin, sheet, right, length, zones, satAdd_le clamped, overrun⟩, h.marks,
            h.pointer⟩
        exact ⟨counted.store (Nat.le_refl _) room, rfl⟩

theorem foldl_place_sound (values : List Nat) : ∀ a : Placing, a.staged.Sound →
    (values.foldl Placing.place a).staged.Sound ∧ (values.foldl Placing.place a).staged.status = a.staged.status := by
  induction values with
  | nil => exact fun a h => ⟨h, rfl⟩
  | cons v values ih =>
    intro a h
    obtain ⟨sound, status⟩ := a.place_sound h v
    obtain ⟨sound', status'⟩ := ih (a.place v) sound
    exact ⟨sound', status'.trans status⟩

theorem placeZones_sound {q : Staged} (h : q.Sound) {start : Option Nat} (inside : ∀ n ∈ start, n < q.body.zoneCount)
    (values : List Nat) : (placeZones q start values).staged.Sound ∧ (placeZones q start values).staged.status = q.status := by
  refine foldl_place_sound values _ ⟨h.body, h.marks, ?_⟩
  cases start with
  | none => exact h.pointer
  | some n => exact (inside n rfl).le

/-! ### PROFILE_BEGIN (R42, R45) -/

theorem beginBody_ok {p : List Byte} (checked : firstFailing (beginChecks p) = none) {mode : LoadMode} {zones : List Nat}
    (length : zones.length = byteAt p 4) (values : ∀ v ∈ zones, v ≤ 1000) : (beginBody p mode zones).ok := by
  have each := firstFailing_eq_none.1 checked
  simp only [beginChecks, List.forall_mem_cons, Bool.and_eq_true, inRange_iff, inRangeInt_iff, decide_eq_true_eq] at each
  obtain ⟨-, job, zoneCount, zonePitch, zoneOrigin, -, ⟨⟨-, right⟩, sheet⟩, -⟩ := each
  exact ⟨job, zoneCount, zonePitch, zoneOrigin, sheet, right, length, values, Nat.zero_le _, Nat.zero_le _⟩

/-- Every command of a load leaves a sound profile (chapter 3). -/
theorem LoadStep.profilesSound {c : Instr} {i : TowerIx} {w : Tower} {staged : Option Staged} {idle : Option Nat}
    (step : LoadStep c i w staged idle) (h : w.ProfilesSound) {w' : Tower} (staged' : w'.staged = staged)
    (idle' : w'.idle = idle) (active : w'.active = w.active) : w'.ProfilesSound := by
  have kept : ∀ a ∈ w'.active, a.body.ok := active ▸ h.active
  cases step with
  | broken is loading =>
    have sound := h.staged _ (Tower.loading_eq_some.1 loading).1
    refine .closed (fun q hq => ?_) kept idle'
    rw [staged'] at hq
    obtain rfl := Option.some.inj hq
    exact ⟨⟨sound.body, sound.marks, sound.pointer⟩, nofun⟩
  | opened is checked values =>
    refine .open staged' ⟨?_, List.length_replicate, Nat.zero_le _⟩ rfl kept idle'
    rcases values with rfl | ⟨q, is, count, rfl⟩
    · refine beginBody_ok checked List.length_replicate fun v hv => ?_
      rw [(List.mem_replicate.1 hv).2]
      exact Nat.zero_le _
    · obtain ⟨-, -, -, -, -, -, length, zones, -, -⟩ := (h.staged q is).body
      exact beginBody_ok checked (length.trans count) zones
  | placed is loading inside =>
    obtain ⟨was, open'⟩ := Tower.loading_eq_some.1 loading
    obtain ⟨sound, status⟩ := placeZones_sound (h.staged _ was) inside _
    exact .open staged' sound (status.trans open') kept idle'
  | ended is loading =>
    have sound := h.staged _ (Tower.loading_eq_some.1 loading).1
    refine .closed (fun q hq => ?_) kept idle'
    rw [staged'] at hq
    obtain rfl := Option.some.inj hq
    refine ⟨⟨sound.body, sound.marks, sound.pointer⟩, ?_⟩
    show Staged.endStatus _ ≠ _
    unfold Staged.endStatus
    split
    · nofun
    · split <;> nofun

theorem TowerEffect.profilesSound {c : Instr} {s : State} {i : TowerIx} {w' : Tower} (e : TowerEffect c s i w')
    (h : (s.tower i).ProfilesSound) : w'.ProfilesSound := by
  rcases e.profile_cases with ⟨staged, active, idle⟩ | ⟨-, staged, active, idle⟩ |
    ⟨-, q, was, closed, staged, active, idle⟩ | ⟨step, active⟩ | ⟨-, staged, active, idle⟩
  · exact h.congr staged active (by rw [idle])
  · exact .closed (fun q hq => by rw [staged] at hq; cases hq) (fun a ha => by rw [active] at ha; cases ha) idle
  · have stopped : (s.tower i).idle = none := by
      have runs := h.idle
      have noLoad : (s.tower i).loading = none := by
        cases loading : (s.tower i).loading with
        | none => rfl
        | some q' =>
          obtain ⟨is, open'⟩ := Tower.loading_eq_some.1 loading
          rw [was] at is
          obtain rfl := Option.some.inj is
          exact absurd open' closed
      rw [noLoad] at runs
      exact Option.not_isSome_iff_eq_none.1 (by rw [runs]; exact Bool.false_ne_true)
    refine .closed (fun q hq => by rw [staged] at hq; cases hq) (fun a ha => ?_) (idle.trans stopped)
    rw [active] at ha
    obtain rfl := Option.some.inj ha
    exact (h.staged q was).body
  · exact step.profilesSound h rfl rfl active
  · exact .closed (fun q hq => by rw [staged] at hq; cases hq) (active ▸ h.active) idle

theorem Tower.ProfilesSound.off : Tower.off.ProfilesSound := ⟨nofun, nofun, rfl⟩

theorem State.powerOn_tower (s : State) (h : HoldLevel) (i : TowerIx) : (s.powerOn h).tower i = Tower.off := by
  simp [State.powerOn, State.tower, State.reset]

theorem Effect.profilesOk {c : Instr} {s u : State} (h : s.profilesOk) (e : Effect c s u) : u.profilesOk := by
  rw [State.profilesOk_iff] at h ⊢
  intro i
  rcases e.towers with ⟨level, -, rfl⟩ | ⟨-, k, curve, loaded⟩ | towers
  · rw [State.powerOn_tower]
    exact .off
  · rcases loaded.tower i with ⟨e, -⟩ | ⟨-, -, e⟩ <;> rw [e]
    · exact h i
    · exact (h i).congr rfl rfl rfl
  · exact (towers i).profilesSound (h i)

theorem profilesOk_kept : Keeps State.profilesOk := by
  refine keeps_of_effects (fun _ _ h => h) (fun s level => State.profilesOk_iff.2 fun i => ?_)
    (fun s h => State.profilesOk_iff.2 fun i => ?_) (fun _ _ h _ => h) (fun _ h => h) fun _ _ _ h _ e => e.profilesOk h
  · rw [State.powerOn_tower]
    exact .off
  · have sound := State.profilesOk_iff.1 h i
    rcases s.tick_tower i with e | e <;> rw [e]
    · exact sound
    · exact sound.congr rfl rfl Option.isSome_map

/-- Settles O55: what an event does to the curves, to a tower's setup and to its profiles, each table kept by itself. -/
theorem tablesAndProfilesKept : Obligations.TablesAndProfilesKept := ⟨tablesOk_kept, profilesOk_kept⟩

end Sys2Proof.Machine
end

section
/-! PROOFS. Key and group records, keys, Phases and Targets through a step (chapters 2, 4 and 6). -/

namespace Sys2Proof.Machine

/-! ### The records of a tower (R24, R102, R114, R115, R120) -/

/-- The records of a tower are those of its setup and Generation. -/
structure Tower.RecordsSound (w : Tower) : Prop where
  generation : w.generation ≤ 255
  keys : w.keys.map Key.index = if w.setup.enabled then List.range' 1 w.setup.keyCount else []
  groups : w.groups.map Group.index =
    if w.setup.enabled then allGroups.filter fun g => g.val < groupCount w.setup.keyCount else []
  sound : ∀ r ∈ w.groups, r.Sound w.generation
  absence : AbsenceSound w.keys w.groups

theorem State.recordsOk_iff {s : State} : s.recordsOk ↔ ∀ i, (s.tower i).RecordsSound := by
  constructor
  · intro h i
    obtain ⟨generation, keys, groups, sound, absence⟩ := h i
    refine ⟨generation, keys, groups, fun r hr => ?_, absence⟩
    obtain ⟨g, misses, timeouts, motion⟩ := sound r hr
    exact ⟨g, misses, timeouts, motion⟩
  · intro h i
    obtain ⟨generation, keys, groups, sound, absence⟩ := h i
    refine ⟨generation, keys, groups, fun r hr => ?_, absence⟩
    obtain ⟨g, misses, timeouts, motion⟩ := sound r hr
    exact ⟨g, misses, timeouts, motion⟩

theorem Tower.RecordsSound.groups_nodup {w : Tower} (h : w.RecordsSound) : (w.groups.map Group.index).Nodup := by
  rw [h.groups]
  split
  · exact List.Nodup.filter _ (by decide)
  · exact List.nodup_nil

theorem Tower.RecordsSound.off : Tower.off.RecordsSound := ⟨by decide, rfl, rfl, nofun, nofun⟩

theorem exists_of_mem_forall₂ {α : Type} {R : α → α → Prop} {l l' : List α} (h : List.Forall₂ R l l') :
    ∀ {b}, b ∈ l' → ∃ a ∈ l, R a b := by
  induction h with
  | nil => exact nofun
  | cons first _ ih =>
    intro b hb
    rcases List.mem_cons.1 hb with rfl | later
    · exact ⟨_, List.mem_cons_self, first⟩
    · obtain ⟨a, ha, r⟩ := ih later
      exact ⟨a, List.mem_cons_of_mem _ ha, r⟩

/-- In-place events keep the records those of the setup. -/
theorem Tower.RecordsSound.follows {targets : Prop} {w w' : Tower} (h : w.RecordsSound) (f : w.Follows targets w') :
    w'.RecordsSound := by
  obtain ⟨setup, generation, -⟩ := f.fields
  have keys : w'.keys.map Key.index = w.keys.map Key.index := by
    refine List.forall₂_eq_eq_eq ▸ ?_
    rw [List.forall₂_map_left_iff, List.forall₂_map_right_iff]
    exact f.keys.flip.imp fun _ _ k => k.keeps.index
  have groups : w'.groups.map Group.index = w.groups.map Group.index := by
    refine List.forall₂_eq_eq_eq ▸ ?_
    rw [List.forall₂_map_left_iff, List.forall₂_map_right_iff]
    exact f.groups.flip.imp fun _ _ r => r.index
  refine ⟨generation ▸ h.generation, ?_, ?_, fun r hr => ?_, f.absence h.groups_nodup h.absence⟩
  · rw [keys, setup]
    exact h.keys
  · rw [groups, setup]
    exact h.groups
  · obtain ⟨r₀, mem, follows⟩ := exists_of_mem_forall₂ f.groups hr
    rw [generation]
    exact follows.sound (h.sound r₀ mem)

theorem nextGeneration_le (n : Nat) : nextGeneration n ≤ 255 := by
  unfold nextGeneration
  omega

theorem freshKeys_index (n : Nat) : (freshKeys n).map Key.index = List.range' 1 n := by
  rw [freshKeys, List.map_map, List.range'_eq_map_range]
  exact List.map_congr_left fun i _ => Nat.add_comm i 1

theorem freshGroups_index (n generation : Nat) :
    (freshGroups n generation).map Group.index = allGroups.filter fun g => g.val < groupCount n := by
  rw [freshGroups, List.map_map]
  exact List.map_id _

theorem mem_freshKeys {n : Nat} {k : Key} (h : k ∈ freshKeys n) : ∃ i, k = Key.fresh i := by
  obtain ⟨i, -, rfl⟩ := List.mem_map.1 h
  exact ⟨_, rfl⟩

theorem mem_freshGroups {n generation : Nat} {r : Group} (h : r ∈ freshGroups n generation) :
    ∃ g, r = Group.fresh generation g := by
  obtain ⟨g, -, rfl⟩ := List.mem_map.1 h
  exact ⟨_, rfl⟩

/-- A setup makes the records anew (R24). -/
theorem Tower.RecordsSound.rebuilt (w : Tower) (u : Setup) : (w.rebuilt u).RecordsSound := by
  have off : u.enabled = false → (w.rebuilt u).keys = [] ∧ (w.rebuilt u).groups = [] := fun e => by simp [Tower.rebuilt, e]
  refine ⟨nextGeneration_le _, ?_, ?_, ?_, ?_⟩
  · show List.map _ (if u.enabled then _ else _) = if u.enabled then _ else _
    split
    · exact freshKeys_index _
    · rfl
  · show List.map _ (if u.enabled then _ else _) = if u.enabled then _ else _
    split
    · exact freshGroups_index _ _
    · rfl
  · intro r hr
    change r ∈ (if u.enabled then _ else _) at hr
    split at hr
    · obtain ⟨g, rfl⟩ := mem_freshGroups hr
      exact ⟨rfl, Nat.zero_le _, Nat.zero_le _, rfl⟩
    · cases hr
  · intro r hr k hk _
    change r ∈ (if u.enabled then _ else _) at hr
    change k ∈ (if u.enabled then _ else _) at hk
    split at hr
    · rename_i on
      rw [if_pos on] at hk
      obtain ⟨g, rfl⟩ := mem_freshGroups hr
      obtain ⟨n, rfl⟩ := mem_freshKeys hk
      exact ⟨nofun, nofun⟩
    · cases hr

/-- Recomputes change no index and make no key UNREACHABLE or reachable (R105). -/
theorem Tower.RecordsSound.rekeyed {w v : Tower} (h : w.RecordsSound) {f : Key → Key}
    (frame : v.setup.enabled = w.setup.enabled ∧ v.setup.keyCount = w.setup.keyCount ∧ v.generation = w.generation ∧
      v.groups = w.groups)
    (keys : ∀ k ∈ w.keys, (f k).index = k.index ∧ ((f k).state = .unreachable ↔ k.state = .unreachable)) :
    ({ v with keys := w.keys.map f } : Tower).derived.RecordsSound := by
  obtain ⟨enabled, count, generation, groups⟩ := frame
  refine ⟨generation ▸ h.generation, ?_, ?_, fun r hr => ?_, fun r hr k' hk same => ?_⟩
  · show (w.keys.map f).map _ = if v.setup.enabled then List.range' 1 v.setup.keyCount else []
    rw [enabled, count, List.map_map, ← h.keys]
    exact List.map_congr_left fun k hk => (keys k hk).1
  · show v.groups.map _ = if v.setup.enabled then allGroups.filter fun g => g.val < groupCount v.setup.keyCount else []
    rw [enabled, count, groups, h.groups]
  · show r.Sound v.generation
    rw [generation]
    exact h.sound r (groups ▸ hr)
  · obtain ⟨k, was, rfl⟩ := List.mem_map.1 hk
    rw [Key.group_congr (keys k was).1] at same
    rw [(keys k was).2]
    exact h.absence r (groups ▸ hr) k was same

theorem Retuned.frame {c : Instr} {w v : Tower} (h : Retuned c w v) :
    v.setup.enabled = w.setup.enabled ∧ v.setup.keyCount = w.setup.keyCount ∧ v.generation = w.generation ∧
      v.groups = w.groups := by
  cases h <;> exact ⟨rfl, rfl, rfl, rfl⟩

/-- A WARM restart renews the records of an enabled tower under the next Generation (R123). -/
theorem Tower.RecordsSound.warm {w : Tower} (h : w.RecordsSound) (curve : Option Curve) : (w.warm curve).RecordsSound := by
  simp only [Tower.warm]
  split
  · rename_i on
    refine ⟨nextGeneration_le _, ?_, ?_, fun r hr => ?_, fun r hr k hk _ => ?_⟩
    · show (w.keys.map _).map _ = _
      rw [List.map_map]
      exact h.keys
    · show (w.groups.map _).map _ = _
      rw [List.map_map]
      exact h.groups
    · obtain ⟨r, was, rfl⟩ := List.mem_map.1 hr
      exact ⟨rfl, Nat.zero_le _, (h.sound r was).timeouts, rfl⟩
    · obtain ⟨r, -, rfl⟩ := List.mem_map.1 hr
      obtain ⟨k, -, rfl⟩ := List.mem_map.1 hk
      exact ⟨nofun, nofun⟩
  · exact ⟨h.generation, h.keys, h.groups, h.sound, h.absence⟩

theorem Tower.RecordsSound.tick {w : Tower} (h : w.RecordsSound) : w.tick.RecordsSound := by
  refine ⟨h.generation, h.keys, ?_, fun r hr => ?_, fun r hr k hk same => ?_⟩
  · show (w.groups.map _).map _ = _
    rw [List.map_map]
    exact h.groups
  · obtain ⟨r, was, rfl⟩ := List.mem_map.1 hr
    obtain ⟨generation, misses, timeouts, motion⟩ := h.sound r was
    exact ⟨generation, misses, timeouts, Option.isSome_map.trans motion⟩
  · obtain ⟨r, was, rfl⟩ := List.mem_map.1 hr
    exact h.absence r was k hk same

theorem TowerEffect.recordsSound {c : Instr} {s : State} {i : TowerIx} {w' : Tower} (e : TowerEffect c s i w')
    (h : (s.tower i).RecordsSound) : w'.RecordsSound := by
  cases e with
  | same => exact h
  | setup is checked =>
    obtain ⟨generation, keys, groups, sound, absence⟩ := Tower.RecordsSound.rebuilt (s.tower i) (setupOf _)
    exact ⟨generation, keys, groups, sound, absence⟩
  | rekeyed retuned enabled keys =>
    refine h.rekeyed retuned.frame fun k hk => ?_
    rcases keys k hk with by' | ⟨-, same⟩
    · exact ⟨by'.index, by'.unreachable⟩
    · rw [same]
      exact ⟨rfl, Iff.rfl⟩
  | load step => exact ⟨h.generation, h.keys, h.groups, h.sound, h.absence⟩
  | records follows => exact h.follows follows
  | warm is => exact h.warm _

theorem Effect.recordsOk {c : Instr} {s u : State} (h : s.recordsOk) (e : Effect c s u) : u.recordsOk := by
  rw [State.recordsOk_iff] at h ⊢
  intro i
  rcases e.towers with ⟨level, -, rfl⟩ | ⟨-, k, curve, loaded⟩ | towers
  · rw [State.powerOn_tower]
    exact .off
  · rcases loaded.tower i with ⟨e, -⟩ | ⟨-, -, e⟩ <;> rw [e]
    · exact h i
    · refine (h i).rekeyed ⟨rfl, rfl, rfl, rfl⟩ fun key _ => ?_
      have by' := State.keyRecomputed_self (s.withCurve k (some curve)) i (s.tower i) key
      exact ⟨by'.index, by'.unreachable⟩
  · exact (towers i).recordsSound (h i)

/-- Settles O56: what an event does to the records of one tower, by the kinds of change that it can make to them. -/
theorem recordsKept : Obligations.RecordsKept := by
  refine keeps_of_effects (fun _ _ h => h) (fun s level => State.recordsOk_iff.2 fun i => ?_)
    (fun s h => State.recordsOk_iff.2 fun i => ?_) (fun _ _ h _ => h) (fun _ h => h) fun _ _ _ h _ e => e.recordsOk h
  · rw [State.powerOn_tower]
    exact .off
  · have sound := State.recordsOk_iff.1 h i
    rcases s.tick_tower i with e | e <;> rw [e]
    · exact sound
    · exact sound.tick

end Sys2Proof.Machine
end

section
/-! PROOFS. Keys, Phases and Targets through a step (Tables 6-1 and 6-2, R29, R80). -/

namespace Sys2Proof.Machine

/-! ### The batch on the line (R117, R135) -/

theorem Line.batch_of_noMove {l : Line} (h : l.hasMove = false) : l.batch = [] := by
  cases l with
  | free => rfl
  | gap n => rfl
  | waiting r n =>
    obtain ⟨_, _ | _ | _, _⟩ := r
    · cases h
    · rfl
    · rfl
  | sending what t warm =>
    cases what with
    | halt => rfl
    | broadcast => rfl
    | transaction r =>
      obtain ⟨_, _ | _ | _, _⟩ := r
      · cases h
      · rfl
      · rfl

/-- What a MOVE on the line carries it carried before, or it is the batch of a group as it stands (R135). -/
theorem Effect.batch {c : Instr} {s u : State} (e : Effect c s u) :
    (∀ b ∈ u.drive.line.batch, b ∈ s.drive.line.batch) ∨ ∃ i g, u.drive.line.batch = (s.tower i).moveBatch g := by
  rcases e.line with ⟨-, -, same⟩ | ⟨-, noMove⟩ | ⟨rfl, -⟩
  · exact .inl same
  · exact .inl (by rw [Line.batch_of_noMove noMove]; nofun)
  · cases e with
    | moveGrant free chosen first lowest record => exact .inr ⟨_, _, rfl⟩
    | managed m hand kind len => cases m
    | idle => exact .inl fun _ => id
    | answered hand => exact .inl fun _ => id
    | moveStray line => exact .inl nofun
    | statusStray line => exact .inl nofun
    | forwardEnded line => exact .inl (by rw [State.endForward_drive]; nofun)

/-- The targets that a MOVE carries are Targets of keys (R135). -/
theorem Tower.mem_moveBatch {w : Tower} {g : GroupIx} {b : Nat × Nat} (h : b ∈ w.moveBatch g) :
    ∃ k ∈ w.keys, k.target = some b.2 := by
  obtain ⟨k, hk, e⟩ := List.mem_filterMap.1 h
  split at e
  · obtain ⟨o, target, rfl⟩ := Option.map_eq_some_iff.1 e
    exact ⟨k, (List.mem_filter.1 hk).1, target⟩
  · cases e

/-! ### The keys of a tower (R65, R85, R95, R103, R104) -/

/-- The keys of a tower as Tables 6-1 and 6-2 give them, with what their recomputes need. -/
structure Tower.KeysSound (w : Tower) (curve : Option Curve) : Prop where
  off : w.setup.enabled = false → w.keys = []
  loaded : w.setup.enabled = true → curve.isSome = true ∧ w.setup.minOpening ≤ 400
  keys : ∀ k ∈ w.keys, k.Sound w.setup.corrLimit ∧ k.computed.isSome = w.active.isSome

/-- The curve that a tower's setup names. -/
def State.curveFor (s : State) (i : TowerIx) : Option Curve := s.curve (s.tower i).setup.curveId

theorem State.keysOk_iff {s : State} : s.keysOk ↔ s.batchOk ∧ ∀ i, (s.tower i).KeysSound (s.curveFor i) := by
  constructor
  · rintro ⟨batch, towers⟩
    refine ⟨batch, fun i => ?_⟩
    obtain ⟨off, loaded, keys⟩ := towers i
    exact ⟨off, loaded, fun k hk => ⟨Key.ok_iff.1 (keys k hk).1, (keys k hk).2⟩⟩
  · rintro ⟨batch, towers⟩
    refine ⟨batch, fun i => ?_⟩
    obtain ⟨off, loaded, keys⟩ := towers i
    exact ⟨off, loaded, fun k hk => ⟨Key.ok_iff.2 (keys k hk).1, (keys k hk).2⟩⟩

theorem Tower.KeysSound.powerOff (curve : Option Curve) : Tower.off.KeysSound curve := ⟨fun _ => rfl, nofun, nofun⟩

theorem Tower.KeysSound.follows {targets : Prop} {w w' : Tower} {curve : Option Curve} (h : w.KeysSound curve)
    (f : w.Follows targets w') (ok : targets) : w'.KeysSound curve := by
  obtain ⟨setup, -, -, active, -⟩ := f.fields
  refine ⟨fun off => ?_, fun on => ?_, fun k hk => ?_⟩
  · have none := f.keys.length_eq
    rw [h.off (setup ▸ off)] at none
    exact List.eq_nil_of_length_eq_zero none.symm
  · rw [setup] at on ⊢
    exact h.loaded on
  · obtain ⟨k₀, mem, follows⟩ := exists_of_mem_forall₂ f.keys hk
    rw [setup, active, follows.keeps.computed]
    exact ⟨follows.sound ok (h.keys k₀ mem).1, (h.keys k₀ mem).2⟩

theorem Key.Sound.fresh (index limit : Nat) : (Key.fresh index).Sound limit :=
  ⟨trivial, nofun, nofun, nofun, Nat.zero_le _, (by decide : -1000 ≤ (0 : Int) ∧ (0 : Int) ≤ 1000), Nat.zero_le _, nofun⟩

theorem Tower.KeysSound.rebuilt {s : State} {p : List Byte} (w : Tower) (checked : firstFailing (s.setupChecks p) = none) :
    (w.rebuilt (setupOf p)).KeysSound (s.curve (setupOf p).curveId) := by
  obtain ⟨⟨-, -, -, minOpening, -⟩, loaded⟩ := setupOf_sound checked
  refine ⟨fun off => ?_, fun on => ⟨loaded on, minOpening⟩, fun k hk => ?_⟩
  · show (if (setupOf p).enabled then _ else _) = _
    exact if_neg (by rw [show (setupOf p).enabled = false from off]; exact Bool.false_ne_true)
  · change k ∈ (if (setupOf p).enabled then _ else _) at hk
    split at hk
    · obtain ⟨n, rfl⟩ := mem_freshKeys hk
      exact ⟨.fresh n _, rfl⟩
    · cases hk

/-- What a recompute's tower shares with the tower before. -/
theorem Retuned.inputs {c : Instr} {w v : Tower} (h : Retuned c w v) :
    v.setup.enabled = w.setup.enabled ∧ v.setup.minOpening = w.setup.minOpening ∧ v.setup.corrLimit = w.setup.corrLimit ∧
      v.setup.curveId = w.setup.curveId ∧ (w.active.isSome = true → v.active.isSome = true) := by
  cases h
  · exact ⟨rfl, rfl, rfl, rfl, id⟩
  · exact ⟨rfl, rfl, rfl, rfl, id⟩
  · exact ⟨rfl, rfl, rfl, rfl, fun _ => rfl⟩

/-- Keys recomputed from a tower whose inputs have changed (R105). -/
theorem Tower.KeysSound.rekeyed {c : Instr} {w v : Tower} {curve : Option Curve} (h : w.KeysSound curve)
    (retuned : Retuned c w v) (enabled : w.setup.enabled = true) {curve' : Option Curve} (loaded : curve'.isSome = true)
    {f : Key → Key} (keys : ∀ k ∈ w.keys, k.RecomputedBy v curve' (f k) ∨ v = w ∧ f k = k) :
    ({ v with keys := w.keys.map f } : Tower).derived.KeysSound curve' := by
  obtain ⟨same, minOpening, corrLimit, -, active⟩ := retuned.inputs
  have opening : v.setup.minOpening ≤ 400 := minOpening ▸ (h.loaded enabled).2
  refine ⟨fun off => ?_, fun _ => ⟨loaded, opening⟩, fun k' hk => ?_⟩
  · rw [show v.setup.enabled = false from off, enabled] at same
    cases same
  · obtain ⟨k, was, rfl⟩ := List.mem_map.1 hk
    obtain ⟨sound, presence⟩ := h.keys k was
    show (f k).Sound v.setup.corrLimit ∧ (f k).computed.isSome = v.active.isSome
    rcases keys k was with by' | ⟨rfl, left⟩
    · refine ⟨by'.sound loaded opening (fun is => active (presence ▸ is)) (corrLimit ▸ sound), ?_⟩
      rw [by'.computed]
      exact computeKey_isSome loaded _
    · rw [left]
      exact ⟨sound, presence⟩

theorem Tower.KeysSound.warm {w : Tower} {curve : Option Curve} (h : w.KeysSound curve) : (w.warm curve).KeysSound curve := by
  simp only [Tower.warm]
  split
  · rename_i on
    obtain ⟨loaded, minOpening⟩ := h.loaded on
    refine ⟨fun off => ?_, fun _ => ⟨loaded, minOpening⟩, fun k' hk => ?_⟩
    · rw [show w.setup.enabled = false from off] at on
      cases on
    · obtain ⟨k, was, rfl⟩ := List.mem_map.1 hk
      have sound := (h.keys k was).1
      exact ⟨⟨trivial, nofun, computeKey_target minOpening, nofun, Nat.zero_le _, sound.trim, sound.corr, nofun⟩,
        computeKey_isSome loaded _⟩
  · exact ⟨h.off, h.loaded, h.keys⟩

/-- What an event makes of one tower's keys. -/
theorem TowerEffect.keysSound {c : Instr} {s : State} {i : TowerIx} {w' : Tower} (e : TowerEffect c s i w')
    (h : (s.tower i).KeysSound (s.curveFor i)) (ok : s.batchOk) : w'.KeysSound (s.curve w'.setup.curveId) := by
  cases e with
  | same => exact h
  | setup is checked =>
    obtain ⟨off, loaded, keys⟩ := Tower.KeysSound.rebuilt (s.tower i) checked
    exact ⟨off, loaded, keys⟩
  | rekeyed retuned enabled keys =>
    have loaded := (h.loaded enabled).1
    rw [State.curveFor, ← retuned.inputs.2.2.2.1] at loaded
    exact h.rekeyed retuned enabled loaded keys
  | load step => exact ⟨h.off, h.loaded, h.keys⟩
  | records follows =>
    rw [follows.fields.1]
    exact h.follows follows ok
  | warm is =>
    rw [(Tower.warm_fields _ _).1]
    exact h.warm

theorem State.batchOk_powerOn (s : State) (h : HoldLevel) : (s.powerOn h).batchOk := nofun

theorem Effect.keysOk {c : Instr} {s u : State} (h : s.keysOk) (e : Effect c s u) : u.keysOk := by
  rw [State.keysOk_iff] at h ⊢
  obtain ⟨batch, towers⟩ := h
  refine ⟨?_, fun i => ?_⟩
  · rcases e.batch with same | ⟨i, g, same⟩
    · exact fun b hb => batch b (same b hb)
    · intro b hb
      rw [same] at hb
      obtain ⟨k, hk, target⟩ := Tower.mem_moveBatch hb
      obtain ⟨c, hc, is⟩ := Option.map_eq_some_iff.1 target
      exact is ▸ ((towers i).keys k hk).1.target c hc
  · rcases e.tables with ⟨level, -, rfl⟩ | ⟨-, k, curve, loaded⟩ | ⟨same, effect⟩
    · rw [State.powerOn_tower]
      exact .powerOff _
    · rcases loaded.tower i with ⟨e, other⟩ | ⟨enabled, uses, e⟩
      · obtain ⟨off, on, keys⟩ := towers i
        rw [State.curveFor, e]
        exact ⟨off, fun enabled => ⟨loaded.isSome (on enabled).1, (on enabled).2⟩, keys⟩
      · have curve' : u.curveFor i = (s.withCurve k (some curve)).curve (s.tower i).setup.curveId := by
          rw [State.curveFor, e]
          show u.curve (s.tower i).setup.curveId = _
          unfold State.curve
          rw [loaded.curves]
          rfl
        have now : (u.curveFor i).isSome = true := by
          rw [State.curveFor, e]
          exact loaded.isSome ((towers i).loaded enabled).1
        rw [e]
        exact (towers i).rekeyed (.same (c := .curveLoad)) enabled now fun key _ =>
          .inl (curve' ▸ State.keyRecomputed_self (s.withCurve k (some curve)) i (s.tower i) key)
    · have curve (j : CurveIx) : u.curve j = s.curve j := congrArg (fun curves => curves[j]) same
      rw [State.curveFor, curve]
      exact (effect i).keysSound (towers i) batch

/-- Settles O57: the batch on the line, and key by key what an event does to the keys of one tower. -/
theorem keysKept : Obligations.KeysKept := by
  refine keeps_of_effects (fun _ _ h => h) (fun s level => State.keysOk_iff.2 ⟨s.batchOk_powerOn level, fun i => ?_⟩)
    (fun s h => ?_) (fun _ _ h _ => h) (fun _ h => h) fun _ _ _ h _ e => e.keysOk h
  · rw [State.powerOn_tower]
    exact .powerOff _
  · obtain ⟨batch, towers⟩ := State.keysOk_iff.1 h
    refine State.keysOk_iff.2 ⟨fun b hb => ?_, fun i => ?_⟩
    · rcases s.tick_line with e | e <;> rw [e] at hb
      · exact batch b hb
      · exact batch b (by rwa [Line.batch_tick] at hb)
    · have curve (j : CurveIx) : s.tick.curve j = s.curve j := congrArg (fun curves => curves[j]) s.tick_curves
      rw [State.curveFor, curve]
      rcases s.tick_tower i with e | e <;> rw [e]
      · exact towers i
      · exact ⟨(towers i).off, (towers i).loaded, (towers i).keys⟩

/-! ### Phases (R29, R30) -/

theorem TowerEffect.phase {c : Instr} {s : State} {i : TowerIx} {w' : Tower} (e : TowerEffect c s i w')
    (h : (s.tower i).phase = (s.tower i).derivedPhase) : w'.phase = w'.derivedPhase := by
  cases e with
  | same => exact h
  | setup is checked => rfl
  | rekeyed retuned enabled keys => rfl
  | load step => exact h
  | records follows => rw [follows.frame]; rfl
  | warm is =>
    simp only [Tower.warm]
    split
    · rfl
    · exact h

theorem phasesOk_kept : Keeps State.phasesOk := by
  refine keeps_of_effects (fun _ _ h => h) (fun s level i => ?_) (fun s h i => ?_) (fun _ _ h _ => h) (fun _ h => h)
    fun c s u h _ e i => ?_
  · rw [State.powerOn_tower]
    rfl
  · rcases s.tick_tower i with e | e <;> rw [e]
    · exact h i
    · exact h i
  · rcases e.towers with ⟨level, -, rfl⟩ | ⟨-, k, curve, loaded⟩ | towers
    · rw [State.powerOn_tower]
      rfl
    · rcases loaded.tower i with ⟨e, -⟩ | ⟨-, -, e⟩ <;> rw [e]
      · exact h i
      · rfl
    · exact (towers i).phase (h i)

/-- The Phase is the first entry of R29's list whose condition holds. -/
theorem Tower.derivedPhase_iff (w : Tower) :
    let worst : Prop := ∃ k ∈ w.keys, k.state = .fault ∨ k.state = .unreachable
    (w.derivedPhase = .off ↔ w.setup.enabled = false) ∧
      (w.derivedPhase = .idle ↔ w.setup.enabled = true ∧ w.active = none) ∧
      (w.derivedPhase = .degraded ↔ w.setup.enabled = true ∧ w.active ≠ none ∧ worst) ∧
      (w.derivedPhase = .ready ↔ w.setup.enabled = true ∧ w.active ≠ none ∧ ∀ k ∈ w.keys, k.state = .settled) ∧
      (w.derivedPhase = .presetting ↔ w.setup.enabled = true ∧ w.active ≠ none ∧ ¬ worst ∧
        ∃ k ∈ w.keys, k.state ≠ .settled) := by
  intro worst
  have isWorst : (w.keys.any fun k => k.state == .fault || k.state == .unreachable) = true ↔ worst := by simp [worst]
  have allSettled : (w.keys.all fun k => k.state == .settled) = true ↔ ∀ k ∈ w.keys, k.state = .settled := by simp
  have notAll : (∃ k ∈ w.keys, k.state ≠ .settled) ↔ ¬ ∀ k ∈ w.keys, k.state = .settled := by simp
  have exclusive : worst → ¬ ∀ k ∈ w.keys, k.state = .settled := by
    rintro ⟨k, hk, bad⟩ settled
    rw [settled k hk] at bad
    exact bad.elim nofun nofun
  rw [notAll]
  rw [← allSettled, ← isWorst] at exclusive ⊢
  unfold Tower.derivedPhase
  generalize (w.keys.any fun k => k.state == .fault || k.state == .unreachable) = bad at exclusive ⊢
  generalize (w.keys.all fun k => k.state == .settled) = settled at exclusive ⊢
  cases w.setup.enabled with
  | false => simp
  | true =>
    cases w.active with
    | none => simp
    | some a => cases bad <;> cases settled <;> simp_all

/-! ### Targets (R80) -/

/-- The computed fields of a tower's keys are those of its inputs as they stand. -/
structure Tower.TargetsSound (w : Tower) (curve : Option Curve) : Prop where
  off : w.setup.enabled = false → w.keys = []
  keys : ∀ k ∈ w.keys, k.computed = computeKey w curve k

theorem State.targetsOk_iff {s : State} : s.targetsOk ↔ ∀ i, (s.tower i).TargetsSound (s.curveFor i) :=
  ⟨fun h i => ⟨(h i).1, (h i).2⟩, fun h i => ⟨(h i).off, (h i).keys⟩⟩

/-- The computation of a key reads the setup and the Active profile of its tower alone. -/
theorem computeKey_tower {w w' : Tower} (setup : w'.setup = w.setup) (active : w'.active = w.active)
    (curve : Option Curve) (k : Key) : computeKey w' curve k = computeKey w curve k := by
  unfold computeKey
  rw [setup, active]

theorem Tower.TargetsSound.congr {w w' : Tower} {curve : Option Curve} (h : w.TargetsSound curve)
    (setup : w'.setup = w.setup) (active : w'.active = w.active) (keys : w'.keys = w.keys) : w'.TargetsSound curve := by
  refine ⟨fun off => keys.trans (h.off (setup ▸ off)), fun k hk => ?_⟩
  rw [computeKey_tower setup active]
  exact h.keys k (keys ▸ hk)

theorem Tower.TargetsSound.follows {targets : Prop} {w w' : Tower} {curve : Option Curve} (h : w.TargetsSound curve)
    (f : w.Follows targets w') : w'.TargetsSound curve := by
  obtain ⟨setup, -, -, active, -⟩ := f.fields
  refine ⟨fun off => ?_, fun k hk => ?_⟩
  · have length := f.keys.length_eq
    rw [h.off (setup ▸ off)] at length
    exact List.eq_nil_of_length_eq_zero length.symm
  · obtain ⟨k₀, mem, follows⟩ := exists_of_mem_forall₂ f.keys hk
    rw [computeKey_tower setup active, follows.keeps.computed, h.keys k₀ mem,
      computeKey_congr follows.keeps.index follows.keeps.keyTrim follows.keeps.corr]

theorem Tower.TargetsSound.rekeyed {c : Instr} {w v : Tower} {curve : Option Curve} (h : w.TargetsSound curve)
    (retuned : Retuned c w v) (enabled : w.setup.enabled = true) {curve' : Option Curve} (same : v = w → curve' = curve)
    {f : Key → Key} (keys : ∀ k ∈ w.keys, k.RecomputedBy v curve' (f k) ∨ v = w ∧ f k = k) :
    ({ v with keys := w.keys.map f } : Tower).derived.TargetsSound curve' := by
  refine ⟨fun off => ?_, fun k' hk => ?_⟩
  · have on := retuned.inputs.1
    rw [show v.setup.enabled = false from off, enabled] at on
    cases on
  · obtain ⟨k, was, rfl⟩ := List.mem_map.1 hk
    refine Eq.trans ?_ (computeKey_tower (w := v) rfl rfl _ _).symm
    rcases keys k was with by' | ⟨rfl, left⟩
    · exact by'.computed
    · rw [left, same rfl]
      exact h.keys k was

theorem Tower.TargetsSound.warm {w : Tower} {curve : Option Curve} (h : w.TargetsSound curve) :
    (w.warm curve).TargetsSound curve := by
  simp only [Tower.warm]
  split
  · rename_i on
    refine ⟨fun off => ?_, fun k' hk => ?_⟩
    · rw [show w.setup.enabled = false from off] at on
      cases on
    · obtain ⟨k, -, rfl⟩ := List.mem_map.1 hk
      refine Eq.trans ?_ (computeKey_tower (w := w) rfl rfl _ _).symm
      exact (computeKey_congr rfl rfl rfl).symm
  · exact h.congr rfl rfl rfl

theorem Tower.TargetsSound.rebuilt (w : Tower) (u : Setup) (curve : Option Curve) :
    (w.rebuilt u).derived.TargetsSound curve := by
  refine ⟨fun off => ?_, fun k hk => ?_⟩
  · show (if u.enabled then _ else _) = _
    exact if_neg (by rw [show u.enabled = false from off]; exact Bool.false_ne_true)
  · change k ∈ (if u.enabled then _ else _) at hk
    split at hk
    · obtain ⟨n, rfl⟩ := mem_freshKeys hk
      rfl
    · cases hk

theorem TowerEffect.targetsSound {c : Instr} {s : State} {i : TowerIx} {w' : Tower} (e : TowerEffect c s i w')
    (h : (s.tower i).TargetsSound (s.curveFor i)) : w'.TargetsSound (s.curve w'.setup.curveId) := by
  cases e with
  | same => exact h
  | setup is checked => exact .rebuilt _ _ _
  | rekeyed retuned enabled keys =>
    refine h.rekeyed retuned enabled (fun same => ?_) keys
    show s.curve _ = _
    rw [State.curveFor, ← same]
    rfl
  | load step => exact h.congr rfl rfl rfl
  | records follows =>
    rw [follows.fields.1]
    exact h.follows follows
  | warm is =>
    rw [(Tower.warm_fields _ _).1]
    exact h.warm

theorem Effect.targetsOk {c : Instr} {s u : State} (h : s.targetsOk) (e : Effect c s u) : u.targetsOk := by
  rw [State.targetsOk_iff] at h ⊢
  intro i
  rcases e.tables with ⟨level, -, rfl⟩ | ⟨-, k, curve, loaded⟩ | ⟨same, effect⟩
  · rw [State.powerOn_tower]
    exact ⟨fun _ => rfl, nofun⟩
  · rcases loaded.tower i with ⟨e, other⟩ | ⟨enabled, uses, e⟩
    · refine ⟨fun off => ?_, fun key hk => ?_⟩
      · rw [e] at off ⊢
        exact (h i).off off
      · rw [e] at hk
        have on : (s.tower i).setup.enabled = true := by
          cases enabled : (s.tower i).setup.enabled with
          | true => rfl
          | false =>
            rw [(h i).off enabled] at hk
            cases hk
        rw [State.curveFor, e, loaded.curve, if_neg (other on)]
        exact (h i).keys key hk
    · have curve' : u.curveFor i = (s.withCurve k (some curve)).curve (s.tower i).setup.curveId := by
        rw [State.curveFor, e]
        show u.curve (s.tower i).setup.curveId = _
        unfold State.curve
        rw [loaded.curves]
        rfl
      refine ⟨fun off => ?_, fun key' hk => ?_⟩
      · rw [e] at off
        rw [show (s.tower i).setup.enabled = false from off] at enabled
        cases enabled
      · rw [e] at hk ⊢
        obtain ⟨key, -, rfl⟩ := List.mem_map.1 hk
        rw [curve']
        refine Eq.trans ?_ (computeKey_tower (w := s.tower i) rfl rfl _ _).symm
        exact (State.keyRecomputed_self (s.withCurve k (some curve)) i (s.tower i) key).computed
  · have curve (j : CurveIx) : u.curve j = s.curve j := congrArg (fun curves => curves[j]) same
    rw [State.curveFor, curve]
    exact (effect i).targetsSound (h i)

theorem targetsOk_kept : Keeps State.targetsOk := by
  refine keeps_of_effects (fun _ _ h => h) (fun s level => State.targetsOk_iff.2 fun i => ?_)
    (fun s h => State.targetsOk_iff.2 fun i => ?_) (fun _ _ h _ => h) (fun _ h => h) fun _ _ _ h _ e => e.targetsOk h
  · rw [State.powerOn_tower]
    exact ⟨fun _ => rfl, nofun⟩
  · have curve (j : CurveIx) : s.tick.curve j = s.curve j := congrArg (fun curves => curves[j]) s.tick_curves
    have sound := State.targetsOk_iff.1 h i
    rw [State.curveFor, curve]
    rcases s.tick_tower i with e | e <;> rw [e]
    · exact sound
    · exact sound.congr rfl rfl rfl

/-- Settles O58: R29's list read off the derivation; the Phase and the Targets of one tower after one event. -/
theorem phasesAndTargetsKept : Obligations.PhasesAndTargetsKept := ⟨Tower.derivedPhase_iff, phasesOk_kept, targetsOk_kept⟩

end Sys2Proof.Machine
end

section
/-! PROOFS. Which commands can change which items (the rule about the whole part). -/

namespace Sys2Proof.Machine

/-! ### SheetCount, the Press Interface and the items of the arbiter -/

/-- SheetCount, the Press Interface, Turn and the rotation order are as they were. -/
structure State.SameItems (s u : State) : Prop where
  sheets : u.sheetCount = s.sheetCount
  press : u.press = s.press
  turn : u.drive.turn = s.drive.turn
  rotation : u.drive.rotation = s.drive.rotation

theorem State.SameItems.refl (s : State) : s.SameItems s := ⟨rfl, rfl, rfl, rfl⟩

theorem State.SameItems.of_bare {s u v : State} (h : s.SameItems v) (same : u.bare = v.bare) : s.SameItems u := by
  obtain ⟨-, -, -, -, sheets, drive, -, press, -⟩ := State.bare_eq_iff.1 same
  exact ⟨sheets.trans h.sheets, press.trans h.press, drive ▸ h.turn, drive ▸ h.rotation⟩

theorem State.SameItems.raise {s u : State} (h : s.SameItems u) (i : SourceIx) (d : Detail) : s.SameItems (u.raise i d) :=
  h.of_bare (u.raise_bare i d)

theorem State.SameItems.pollEnded {s u : State} (h : s.SameItems u) : s.SameItems u.pollEnded :=
  State.SameItems.of_bare (v := u.withPoller u.pollEnded.poller) ⟨h.sheets, h.press, h.turn, h.rotation⟩ u.pollEnded_bare

theorem State.SameItems.trigger {s u : State} (h : s.SameItems u) : s.SameItems u.trigger :=
  State.SameItems.of_bare (v := u.withPoller u.trigger.poller) ⟨h.sheets, h.press, h.turn, h.rotation⟩ u.trigger_bare

theorem State.SameItems.withPending {s u : State} (h : s.SameItems u) (q : List Instr) : s.SameItems (u.withPending q) :=
  ⟨h.sheets, h.press, h.turn, h.rotation⟩

theorem State.SameItems.consoleArrival (s : State) (t : Telegram) : s.SameItems (s.consoleArrival t) := by
  have placed : s.SameItems (s.linkArrival.placeInbound t) := by
    unfold State.placeInbound
    split
    · exact ⟨rfl, rfl, rfl, rfl⟩
    · refine State.SameItems.raise ?_ _ _
      exact ⟨rfl, rfl, rfl, rfl⟩
  have notice {u : State} (h : s.SameItems u) : s.SameItems u.restorationNotice := by
    unfold State.restorationNotice
    split
    · exact h
    · split
      · exact h
      · split
        · exact ⟨h.sheets, h.press, h.turn, h.rotation⟩
        · exact h
  simp only [State.consoleArrival]
  split
  · exact notice placed
  · exact placed

theorem State.SameItems.route {s u : State} (h : s.SameItems u) (t : Telegram) : s.SameItems (u.route t) := by
  have kept {v : State} (sheets : v.sheetCount = u.sheetCount) (press : v.press = u.press)
      (turn : v.drive.turn = u.drive.turn) (rotation : v.drive.rotation = u.drive.rotation) : s.SameItems v :=
    ⟨sheets.trans h.sheets, press.trans h.press, turn.trans h.turn, rotation.trans h.rotation⟩
  rcases u.route_cases t with e | ⟨_, _, _, e⟩ | e | ⟨_, _, e⟩ | ⟨_, _, e⟩ | ⟨-, e⟩ <;> rw [e]
  · exact h
  · exact kept rfl rfl rfl rfl
  · exact kept rfl rfl rfl rfl
  · exact kept rfl rfl rfl rfl
  · refine State.SameItems.raise ?_ _ _
    exact kept rfl rfl rfl rfl
  · exact kept rfl rfl rfl rfl

/-- What a command can change of these items (R83, R132, R133, R165, R171, R173). -/
structure ItemsChange (c : Instr) (s u : State) : Prop where
  sheets : u.sheetCount ≠ s.sheetCount → c = .sheetPulse
  state : u.press.state ≠ s.press.state → c = .pressState
  mode : u.press.mode ≠ s.press.mode → c = .mode ∨ ∃ h, c = .warmRestart h
  hold : u.press.hold ≠ s.press.hold → c = .holdAssert ∨ c = .holdRelease ∨ ∃ h, c = .warmRestart h
  turn : u.drive.turn ≠ s.drive.turn → c = .sweepGrant ∨ c = .moveGrant
  rotation : u.drive.rotation ≠ s.drive.rotation → c = .moveGrant

theorem State.SameItems.change {c : Instr} {s u : State} (h : s.SameItems u) : ItemsChange c s u :=
  ⟨fun ne => absurd h.sheets ne, fun ne => absurd (congrArg Press.state h.press) ne,
    fun ne => absurd (congrArg Press.mode h.press) ne, fun ne => absurd (congrArg Press.hold h.press) ne,
    fun ne => absurd h.turn ne, fun ne => absurd h.rotation ne⟩

theorem Manages.itemsChange {c : Instr} {k : Kind} {rules : State → List Byte → Answer} (m : Manages c k rules)
    (s : State) (p : List Byte) : ItemsChange c s (rules s p).state := by
  have whole {u v : State} (e : u.bare = v.bare) (same : s.SameItems v) : ItemsChange c s u := (same.of_bare e).change
  rcases m.bare_cases s p with e | ⟨-, e⟩ | ⟨-, e⟩ | ⟨is, q, e⟩ | ⟨is, q, e⟩ | ⟨-, q, e⟩
  · exact whole e (.refl s)
  · exact whole e ⟨rfl, rfl, rfl, rfl⟩
  · exact whole e ⟨rfl, rfl, rfl, rfl⟩
  · obtain ⟨-, -, -, -, sheets, drive, -, press, -⟩ := State.bare_eq_iff.1 e
    exact ⟨fun ne => absurd sheets ne, fun _ => is, fun ne => absurd (congrArg Press.mode press) ne,
      fun ne => absurd (congrArg Press.hold press) ne, fun ne => absurd (congrArg Drive.turn drive) ne,
      fun ne => absurd (congrArg Drive.rotation drive) ne⟩
  · obtain ⟨-, -, -, -, sheets, drive, -, press, -⟩ := State.bare_eq_iff.1 e
    exact ⟨fun ne => absurd sheets ne, fun ne => absurd (congrArg Press.state press) ne, fun _ => .inl is,
      fun ne => absurd (congrArg Press.hold press) ne, fun ne => absurd (congrArg Drive.turn drive) ne,
      fun ne => absurd (congrArg Drive.rotation drive) ne⟩
  · exact whole (congrArg State.bare e) ⟨rfl, rfl, rfl, rfl⟩

theorem Effect.itemsChange {c : Instr} {s u : State} (e : Effect c s u) (cold : ∀ h, c ≠ .coldRestart h) :
    ItemsChange c s u := by
  have same {v : State} (sheets : v.sheetCount = s.sheetCount) (press : v.press = s.press)
      (turn : v.drive.turn = s.drive.turn) (rotation : v.drive.rotation = s.drive.rotation) : ItemsChange c s v :=
    State.SameItems.change ⟨sheets, press, turn, rotation⟩
  cases e with
  | coldRestart due => exact absurd rfl (cold _)
  | managed m hand kind len =>
    obtain ⟨sheets, state, mode, hold, turn, rotation⟩ := m.itemsChange s _
    exact ⟨sheets, state, mode, hold, turn, rotation⟩
  | warmRestart due =>
    obtain ⟨-, -, -, -, sheets, drive, -, press, -⟩ := State.bare_eq_iff.1 (s.warmRestart_bare _)
    exact ⟨fun ne => absurd sheets ne, fun ne => absurd (congrArg Press.state press) ne, fun _ => .inr ⟨_, rfl⟩,
      fun _ => .inr (.inr ⟨_, rfl⟩), fun ne => absurd (congrArg Drive.turn drive) ne,
      fun ne => absurd (congrArg Drive.rotation drive) ne⟩
  | sheetPulse =>
    have others : (s.withSheets (s.sheetCount + 1)).SameItems (s.withSheets (s.sheetCount + 1)).pollerSheet := by
      unfold State.pollerSheet
      split
      · exact .refl _
      · dsimp only
        split
        · exact State.SameItems.trigger ⟨rfl, rfl, rfl, rfl⟩
        · exact ⟨rfl, rfl, rfl, rfl⟩
    obtain ⟨-, press, turn, rotation⟩ := others
    exact ⟨fun _ => rfl, fun ne => absurd (congrArg Press.state press) ne, fun ne => absurd (congrArg Press.mode press) ne,
      fun ne => absurd (congrArg Press.hold press) ne, fun ne => absurd turn ne, fun ne => absurd rotation ne⟩
  | holdAsserted hold =>
    obtain ⟨sent, purged⟩ := State.purgeMoves_eq
      ((s.withPress { s.press with hold := .asserted }).withDrive { s.drive with haltPending := true })
    have others := State.SameItems.raise (.refl (State.purgeMoves
      ((s.withPress { s.press with hold := .asserted }).withDrive { s.drive with haltPending := true })))
      srcHoldChange (.level .asserted)
    rw [purged] at others ⊢
    obtain ⟨sheets, press, turn, rotation⟩ := others
    exact ⟨fun ne => absurd sheets ne, fun ne => absurd (congrArg Press.state press) ne,
      fun ne => absurd (congrArg Press.mode press) ne, fun _ => .inl rfl, fun ne => absurd turn ne,
      fun ne => absurd rotation ne⟩
  | holdReleased hold =>
    obtain ⟨sheets, press, turn, rotation⟩ := State.SameItems.raise
      (.refl (s.withPress { s.press with hold := .released })) srcHoldChange (.level .released)
    exact ⟨fun ne => absurd sheets ne, fun ne => absurd (congrArg Press.state press) ne,
      fun ne => absurd (congrArg Press.mode press) ne, fun _ => .inr (.inl rfl), fun ne => absurd turn ne,
      fun ne => absurd rotation ne⟩
  | sweepGrant free chosen current record =>
    exact ⟨fun ne => absurd rfl ne, fun ne => absurd rfl ne, fun ne => absurd rfl ne, fun ne => absurd rfl ne,
      fun _ => .inl rfl, fun ne => absurd rfl ne⟩
  | moveGrant free chosen first lowest record =>
    exact ⟨fun ne => absurd rfl ne, fun ne => absurd rfl ne, fun ne => absurd rfl ne, fun ne => absurd rfl ne,
      fun _ => .inr rfl, fun _ => rfl⟩
  | idle => exact same rfl rfl rfl rfl
  | answered hand => exact same rfl rfl rfl rfl
  | nresetAssert => exact same rfl rfl rfl rfl
  | consoleArrival valid => exact (State.SameItems.consoleArrival s _).change
  | consoleInvalid =>
    refine State.SameItems.change (State.SameItems.raise ?_ _ _)
    exact ⟨rfl, rfl, rfl, rfl⟩
  | silenceExpired link =>
    refine State.SameItems.change (State.SameItems.raise ?_ _ _)
    exact ⟨rfl, rfl, rfl, rfl⟩
  | transmitted queue => exact same rfl rfl rfl rfl
  | handlerTake inbound ready place =>
    refine State.SameItems.change (State.SameItems.route ?_ _)
    exact ⟨rfl, rfl, rfl, rfl⟩
  | idleExpiry => exact (State.SameItems.of_bare (.refl s) (s.breakLoad_bare _)).change
  | haltGrant free chosen => exact same rfl rfl rfl rfl
  | forwardGrant free chosen queue =>
    unfold State.sendForward
    split <;> exact same rfl rfl rfl rfl
  | windowOpens line => exact same rfl rfl rfl rfl
  | abandonedSent line => exact same rfl rfl rfl rfl
  | broadcastSent line => exact same rfl rfl rfl rfl
  | haltSent line =>
    refine State.SameItems.change (State.SameItems.of_bare ?_ (State.haltEffects_bare _))
    exact ⟨rfl, rfl, rfl, rfl⟩
  | warmHaltSent line => exact same rfl rfl rfl rfl
  | gapEnd line => exact same rfl rfl rfl rfl
  | moveAccepted line guard =>
    obtain ⟨sheets, press, turn, rotation⟩ := State.SameItems.of_bare (.refl s) (State.derivePhase_bare (s.withTower _ _) _)
    exact same sheets press turn rotation
  | moveRejected line guard =>
    obtain ⟨sheets, press, turn, rotation⟩ := State.SameItems.of_bare (.refl s) (State.derivePhase_bare (s.withTower _ _) _)
    exact same sheets press turn rotation
  | moveMissed line guard =>
    obtain ⟨sheets, press, turn, rotation⟩ := State.SameItems.of_bare (.refl s) (State.applyExpiry_bare s _ _ _)
    exact same sheets press turn rotation
  | moveStray line => exact same rfl rfl rfl rfl
  | statusTaken line guard =>
    obtain ⟨sheets, press, turn, rotation⟩ :=
      State.SameItems.pollEnded (State.SameItems.of_bare (.refl s) (State.applyStatus_bare s _ _ _ _ _))
    exact same sheets press turn rotation
  | statusMissed line guard =>
    obtain ⟨sheets, press, turn, rotation⟩ :=
      State.SameItems.pollEnded (State.SameItems.of_bare (.refl s) (State.applyExpiry_bare s _ _ _))
    exact same sheets press turn rotation
  | statusStray line =>
    obtain ⟨sheets, press, turn, rotation⟩ := State.SameItems.pollEnded (.refl s)
    exact same sheets press turn rotation
  | forwardEnded line =>
    simp only [State.endForward]
    split <;> exact same rfl rfl rfl rfl
  | motionExpired => exact (State.SameItems.of_bare (.refl s) (s.motionExpired_bare _ _)).change
  | sweepExpired running =>
    refine State.SameItems.change ?_
    unfold State.sweepExpired
    split
    · exact .refl s
    · exact State.SameItems.trigger ⟨rfl, rfl, rfl, rfl⟩

/-! ### The sources' Priority and Mask (R187, R190) -/

theorem State.raiseAll_priority (os : List (SourceIx × Detail)) (j : SourceIx) : ∀ s : State,
    ((s.raiseAll os).source j).priority = (s.source j).priority ∧ ((s.raiseAll os).source j).mask = (s.source j).mask := by
  induction os with
  | nil => exact fun s => ⟨rfl, rfl⟩
  | cons o os ih =>
    intro s
    have once : ((s.raise o.1 o.2).source j).priority = (s.source j).priority ∧
        ((s.raise o.1 o.2).source j).mask = (s.source j).mask := by
      rw [State.raise_source]
      split
      · subst_vars
        exact ⟨rfl, rfl⟩
      · exact ⟨rfl, rfl⟩
    exact ⟨(ih _).1.trans once.1, (ih _).2.trans once.2⟩

theorem Effect.priorityChange {c : Instr} {s u : State} (e : Effect c s u) (cold : ∀ h, c ≠ .coldRestart h) (j : SourceIx)
    (ne : (u.source j).priority ≠ (s.source j).priority ∨ (u.source j).mask ≠ (s.source j).mask) :
    c = .attentionConfig ∨ ∃ h, c = .warmRestart h := by
  have source {v : State} (same : u.attention = v.attention) : u.source j = v.source j :=
    State.source_congr (congrArg Attention.sources same) j
  rcases e.raises with ⟨os, -, same⟩ | ⟨is, -⟩ | ⟨-, p, same⟩ | ⟨h, is | is, -⟩
  · rw [source same, (s.raiseAll_priority os j).1, (State.raiseAll_priority os j s).2] at ne
    exact ne.elim (absurd rfl) (absurd rfl)
  · exact .inl is
  · have kept : ((attentionPollRules s p).state.source j).priority = (s.source j).priority ∧
        ((attentionPollRules s p).state.source j).mask = (s.source j).mask := by
      unfold attentionPollRules
      split
      · exact ⟨rfl, rfl⟩
      · split
        · exact ⟨rfl, rfl⟩
        · dsimp only
          rw [State.withSource_source]
          split
          · subst_vars
            exact ⟨rfl, rfl⟩
          · exact ⟨rfl, rfl⟩
    rw [source same, kept.1, kept.2] at ne
    exact ne.elim (absurd rfl) (absurd rfl)
  · exact .inr ⟨h, is⟩
  · exact absurd is (cold h)

/-! ### The towers (R36, R37, R39) -/

theorem TowerEffect.generation_cases {c : Instr} {s : State} {i : TowerIx} {w' : Tower} (e : TowerEffect c s i w') :
    w'.generation = (s.tower i).generation ∨ c = .towerSetup ∨ ∃ h, c = .warmRestart h := by
  cases e with
  | same => exact .inl rfl
  | setup is checked => exact .inr (.inl is)
  | rekeyed retuned enabled keys => exact .inl retuned.frame.2.2.1
  | load step => exact .inl rfl
  | records follows => exact .inl follows.fields.2.1
  | warm is => exact .inr (.inr ⟨_, is⟩)

theorem LoadStep.command {c : Instr} {i : TowerIx} {w : Tower} {staged : Option Staged} {idle : Option Nat}
    (h : LoadStep c i w staged idle) :
    c = .profileBegin ∨ c = .profileZones ∨ c = .profileEnd ∨ c = .profileIdleExpiry i := by
  cases h with
  | broken is loading => exact is.elim .inl fun is => .inr (.inr (.inr is))
  | opened is checked values => exact .inl is
  | placed is loading inside => exact .inr (.inl is)
  | ended is loading => exact .inr (.inr (.inl is))

/-- What an event can change of a tower's Generation, setup and profiles. -/
theorem Effect.towerChange {c : Instr} {s u : State} (e : Effect c s u) (cold : ∀ h, c ≠ .coldRestart h) (i : TowerIx) :
    ((u.tower i).generation ≠ (s.tower i).generation → c = .towerSetup ∨ ∃ h, c = .warmRestart h) ∧
      ((u.tower i).staged ≠ (s.tower i).staged → c = .profileBegin ∨ c = .profileZones ∨ c = .profileEnd ∨
        c = .profileIdleExpiry i ∨ c = .jobCommit ∨ c = .towerSetup ∨ ∃ h, c = .warmRestart h) ∧
      ((u.tower i).setup ≠ (s.tower i).setup → c = .towerSetup ∨ c = .towerTrim) ∧
      ((u.tower i).active ≠ (s.tower i).active → c = .jobCommit ∨ c = .towerSetup) := by
  rcases e.towers with ⟨h, is, -⟩ | ⟨-, k, curve, loaded⟩ | towers
  · exact absurd is (cold h)
  · have same : (u.tower i).generation = (s.tower i).generation ∧ (u.tower i).staged = (s.tower i).staged ∧
        (u.tower i).setup = (s.tower i).setup ∧ (u.tower i).active = (s.tower i).active := by
      rcases loaded.tower i with ⟨e, -⟩ | ⟨-, -, e⟩ <;> rw [e] <;> exact ⟨rfl, rfl, rfl, rfl⟩
    exact ⟨absurd same.1, absurd same.2.1, absurd same.2.2.1, absurd same.2.2.2⟩
  · refine ⟨fun ne => (towers i).generation_cases.resolve_left ne, fun ne => ?_, fun ne => ?_, fun ne => ?_⟩
    · rcases (towers i).profile_cases with ⟨staged, -⟩ | ⟨is, -⟩ | ⟨is, -⟩ | ⟨step, -⟩ | ⟨is, -⟩
      · exact absurd staged ne
      · exact .inr (.inr (.inr (.inr (.inr (.inl is)))))
      · exact .inr (.inr (.inr (.inr (.inl is))))
      · rcases step.command with is | is | is | is
        · exact .inl is
        · exact .inr (.inl is)
        · exact .inr (.inr (.inl is))
        · exact .inr (.inr (.inr (.inl is)))
      · exact .inr (.inr (.inr (.inr (.inr (.inr is)))))
    · rcases (towers i).setup_cases with same | ⟨is, -⟩ | ⟨is, -⟩
      · exact absurd same ne
      · exact .inl is
      · exact .inr is
    · rcases (towers i).profile_cases with ⟨-, active, -⟩ | ⟨is, -⟩ | ⟨is, -⟩ | ⟨-, active⟩ | ⟨-, -, active, -⟩
      · exact absurd active ne
      · exact .inr is
      · exact .inl is
      · exact absurd active ne
      · exact absurd active ne

/-- The items of the rule, which the end of an event and an idle step leave as they are. -/
structure State.SameRecords (s u : State) : Prop where
  items : s.SameItems u
  curves : u.curves = s.curves
  sources : ∀ j, (u.source j).priority = (s.source j).priority ∧ (u.source j).mask = (s.source j).mask
  towers : ∀ i, (u.tower i).generation = (s.tower i).generation ∧ (u.tower i).setup = (s.tower i).setup ∧
    (u.tower i).staged = (s.tower i).staged ∧ (u.tower i).active = (s.tower i).active

theorem State.tick_sameRecords (s : State) : s.SameRecords s.tick := by
  refine ⟨?_, s.tick_curves, fun j => ?_, fun i => ?_⟩
  · rcases s.tick_eq with ⟨e, -⟩ | ⟨e, -⟩ <;> rw [e]
    · exact .refl s
    · obtain ⟨-, -, -, -, sheets, drive, -, press, -⟩ := State.bare_eq_iff.1 s.countDown_bare
      have counted : s.SameItems s.countDown :=
        ⟨sheets.trans rfl, press.trans rfl, (congrArg Drive.turn drive).trans rfl, (congrArg Drive.rotation drive).trans rfl⟩
      exact counted.withPending _
  · rw [State.source_congr (congrArg Attention.sources s.tick_attention) j]
    exact ⟨rfl, rfl⟩
  · rcases s.tick_tower i with e | e <;> rw [e] <;> exact ⟨rfl, rfl, rfl, rfl⟩

theorem State.judgeNotices_sameItems {s u : State} (h : s.SameItems u) : s.SameItems u.judgeNotices := by
  obtain ⟨notices, e⟩ := u.judgeNotices_bare
  exact State.SameItems.of_bare (v := u.withConsole { u.console with tx := u.console.tx ++ notices }) ⟨h.sheets, h.press, h.turn, h.rotation⟩ e

theorem State.judgeNotices_curves (s : State) : s.judgeNotices.curves = s.curves := by
  obtain ⟨notices, e⟩ := s.judgeNotices_bare
  exact State.curves_of_bare (t := s.withConsole { s.console with tx := s.console.tx ++ notices }) e

/-- Settles O59: item by item, what an event of the command can change; the notices of the event and an idle step change
none of the items. -/
theorem itemsChangeOnlyAtTheirCommands : Obligations.ItemsChangeOnlyAtTheirCommands := by
  refine ⟨fun s n c rest queue h commands => ?_, fun s n queue h => ?_⟩
  · have cold (level : HoldLevel) : c ≠ .coldRestart level := (commands level).2.2
    rcases step_cases h with ⟨none, -⟩ | ⟨c', rest', queue', h⟩
    · rw [queue] at none
      cases none
    · rw [queue] at queue'
      obtain ⟨rfl, rfl⟩ := List.cons.inj queue'
      rcases exec_cases h with ⟨level, is | is, -⟩ | rfl | ⟨-, u, e, rfl⟩
      · exact absurd is (commands level).1
      · exact absurd is (commands level).2.1
      · exact ⟨absurd rfl, absurd rfl, absurd rfl, absurd rfl, absurd rfl, absurd rfl, absurd rfl,
          fun i ne => ne.elim (absurd rfl) (absurd rfl), fun i => ⟨absurd rfl, absurd rfl, absurd rfl, absurd rfl⟩⟩
      · obtain ⟨sheets', press', turn', rotation'⟩ := State.judgeNotices_sameItems (.refl u)
        obtain ⟨sheets, state, mode, hold, turn, rotation⟩ := e.itemsChange cold
        rw [sheets', press', turn', rotation', State.judgeNotices_curves]
        refine ⟨sheets, state, mode, hold, turn, rotation, fun ne => ?_, fun i ne => ?_, fun i => ?_⟩
        · by_contra load
          exact ne (e.curves load cold)
        · rw [State.judgeNotices_source] at ne
          exact e.priorityChange cold i ne
        · rw [State.judgeNotices_tower]
          exact e.towerChange cold i
  · rcases step_cases h with ⟨-, rfl⟩ | ⟨c', rest', queue', -⟩
    · obtain ⟨⟨sheets, press, turn, rotation⟩, curves, -, towers⟩ := s.tick_sameRecords
      refine ⟨?_, fun i => ?_⟩
      · rw [sheets, press, turn, rotation, curves, s.tick_attention]
      · obtain ⟨generation, setup, staged, active⟩ := towers i
        rw [generation, setup, staged, active]
    · rw [queue] at queue'
      cases queue'

end Sys2Proof.Machine
end

section
/-! PROOFS. The machine: a step and its command, the idle millisecond, and the state after reset. -/

namespace Sys2Proof.Machine

/-- Settles O1: a step is defined by the front of the queue. -/
theorem stepTakesTheFrontCommand : Obligations.StepTakesTheFrontCommand := by
  intro s c rest queue
  simp only [step, queue]
  rfl

/-! ### No command touches the queue of commands -/

theorem State.pending_of_bare {s t : State} (h : s.bare = t.bare) : s.pending = t.pending :=
  (State.bare_eq_iff.1 h).2.2.2.2.2.2.2.2

@[simp] theorem State.raise_pending (s : State) (i : SourceIx) (d : Detail) : (s.raise i d).pending = s.pending :=
  State.pending_of_bare (s.raise_bare i d)

@[simp] theorem State.derivePhase_pending (s : State) (i : TowerIx) : (s.derivePhase i).pending = s.pending :=
  State.pending_of_bare (s.derivePhase_bare i)

@[simp] theorem State.pollEnded_pending (s : State) : s.pollEnded.pending = s.pending :=
  (congrArg State.pending s.pollEnded_bare :)

@[simp] theorem State.trigger_pending (s : State) : s.trigger.pending = s.pending :=
  (congrArg State.pending s.trigger_bare :)

@[simp] theorem State.judgeNotices_pending (s : State) : s.judgeNotices.pending = s.pending := by
  obtain ⟨notices, e⟩ := s.judgeNotices_bare
  exact (congrArg State.pending e :)

@[simp] theorem State.restorationNotice_pending (s : State) : s.restorationNotice.pending = s.pending := by
  unfold State.restorationNotice
  split
  · rfl
  · split
    · rfl
    · split <;> rfl

@[simp] theorem State.consoleArrival_pending (s : State) (t : Telegram) : (s.consoleArrival t).pending = s.pending := by
  have placed : (s.linkArrival.placeInbound t).pending = s.pending := by
    unfold State.placeInbound
    split <;> simp [State.linkArrival]
  simp only [State.consoleArrival]
  split <;> simp [placed]

@[simp] theorem State.route_pending (s : State) (t : Telegram) : (s.route t).pending = s.pending := by
  rcases s.route_cases t with e | ⟨_, _, _, e⟩ | e | ⟨_, _, e⟩ | ⟨_, _, e⟩ | ⟨-, e⟩ <;> rw [e]
  · rfl
  · rfl
  · rfl
  · exact State.raise_pending _ _ _
  · rfl

@[simp] theorem State.pollerSheet_pending (s : State) : s.pollerSheet.pending = s.pending := by
  unfold State.pollerSheet
  split
  · rfl
  · dsimp only
    split <;> simp

/-- What a command changes is never the queue of commands. -/
theorem Effect.pending {c : Instr} {s u : State} (e : Effect c s u) : u.pending = s.pending := by
  cases e with
  | managed m hand kind len => exact (m.lines_kept s _).2.2.2.2
  | consoleArrival valid => exact s.consoleArrival_pending _
  | consoleInvalid => exact State.raise_pending _ _ _
  | silenceExpired link => exact State.raise_pending _ _ _
  | handlerTake inbound ready place => exact State.route_pending _ _
  | idleExpiry => exact State.pending_of_bare (s.breakLoad_bare _)
  | warmRestart due => exact (State.pending_of_bare (s.warmRestart_bare _)).trans rfl
  | forwardGrant free chosen queue =>
    unfold State.sendForward
    split <;> rfl
  | haltSent line => exact (State.pending_of_bare (State.haltEffects_bare _)).trans rfl
  | moveAccepted line guard => exact State.derivePhase_pending _ _
  | moveRejected line guard => exact State.derivePhase_pending _ _
  | moveMissed line guard => exact (State.withLine_pending _ _).trans (State.pending_of_bare (s.applyExpiry_bare _ _ _))
  | statusTaken line guard =>
    exact (State.pollEnded_pending _).trans (State.pending_of_bare (s.applyStatus_bare _ _ _ _ _))
  | statusMissed line guard =>
    exact (State.pollEnded_pending _).trans (State.pending_of_bare (s.applyExpiry_bare _ _ _))
  | statusStray line => exact s.pollEnded_pending
  | forwardEnded line =>
    simp only [State.endForward]
    split <;> rfl
  | motionExpired => exact State.pending_of_bare (s.motionExpired_bare _ _)
  | sweepExpired running =>
    unfold State.sweepExpired
    split
    · rfl
    · exact State.trigger_pending _
  | sheetPulse => exact State.pollerSheet_pending _
  | holdAsserted hold =>
    rw [State.raise_pending]
    obtain ⟨sent, e⟩ := State.purgeMoves_eq
      ((s.withPress { s.press with hold := .asserted }).withDrive { s.drive with haltPending := true })
    rw [e]
    rfl
  | holdReleased hold => exact State.raise_pending _ _ _
  | idle | answered | nresetAssert | transmitted | coldRestart | haltGrant | sweepGrant | moveGrant | windowOpens
    | abandonedSent | broadcastSent | warmHaltSent | gapEnd | moveStray => rfl

/-- Settles O2: the two power commands by their definition, every other command as the event of an effect. -/
theorem everyCommandCompletes : Obligations.EveryCommandCompletes := by
  intro c s
  rcases exec_event c s with ⟨h, rfl | rfl⟩ | ⟨u, effect, e⟩
  · exact ⟨s.powerOn h, rfl, rfl⟩
  · cases asserted : s.nreset
    · exact ⟨s, by simp [exec, execNresetRelease, asserted], rfl⟩
    · exact ⟨s.powerOn h, by simp [exec, execNresetRelease, asserted], rfl⟩
  · rw [e]
    split
    · exact ⟨s, rfl, rfl⟩
    · exact ⟨u.judgeNotices, rfl, u.judgeNotices_pending.trans effect.pending⟩

/-! ### The idle millisecond -/

theorem expired_iff {timer : Option Nat} : expired timer = true ↔ timer = some 0 := beq_iff_eq

/-- The expiry due on the drive line (R124, R126). -/
theorem Line.mem_expiries {l : Line} {c : Instr} : c ∈ l.expiries ↔
    (c = .gapEnd ∧ l = .gap 0) ∨ (c = .moveWindowExpiry ∧ ∃ d g b w, l = .waiting ⟨d, .move g b, w⟩ 0) ∨
      (c = .statusWindowExpiry ∧ ∃ d g ks w, l = .waiting ⟨d, .status g ks, w⟩ 0) ∨
      (c = .forwardTimeout ∧ ∃ d k w, l = .waiting ⟨d, .forward k, w⟩ 0) := by
  rcases l with _ | _ | ⟨⟨d, work, w⟩, _ | n⟩ | (_ | n)
  case waiting.zero => cases work <;> simp [Line.expiries]
  all_goals simp [Line.expiries]

/-- The expiries due in a tower (R52, R115). -/
theorem Tower.mem_expiries {w : Tower} {i : TowerIx} {c : Instr} : c ∈ w.expiries i ↔
    (c = .profileIdleExpiry i ∧ w.idle = some 0) ∨
      ∃ g, c = .motionTimerExpiry i g ∧ ∃ r ∈ w.groups, r.index = g ∧ r.motionTimer = some 0 := by
  have idle : (c ∈ if expired w.idle then [Instr.profileIdleExpiry i] else []) ↔
      c = .profileIdleExpiry i ∧ w.idle = some 0 := by
    split <;> rename_i h <;> simp [← expired_iff, h]
  rw [Tower.expiries, List.mem_append, idle, or_comm]
  simp only [List.mem_map, List.mem_filter, expired_iff]
  refine or_congr Iff.rfl ⟨?_, ?_⟩
  · rintro ⟨r, ⟨mem, due⟩, rfl⟩
    exact ⟨r.index, rfl, r, mem, rfl, due⟩
  · rintro ⟨g, rfl, r, mem, rfl, due⟩
    exact ⟨r, ⟨mem, due⟩, rfl⟩

/-- The expiries due in the part. -/
theorem State.mem_expiries {s : State} {c : Instr} : c ∈ s.expiries ↔
    (c = .silenceTimerExpiry ∧ s.console.silence = some 0) ∨ (c = .sweepTimerExpiry ∧ s.poller.sweepTimer = some 0) ∨
      c ∈ s.drive.line.expiries ∨ ∃ i, c ∈ (s.tower i).expiries i := by
  have one {timer : Option Nat} {x : Instr} : (c ∈ if expired timer then [x] else []) ↔ c = x ∧ timer = some 0 := by
    split <;> rename_i h <;> simp [← expired_iff, h]
  simp only [State.expiries, List.mem_append, one, List.mem_flatMap, mem_allTowers, true_and]
  exact or_comm.trans (or_congr_right or_comm)

/-- A step with no command waiting is the countdown, with the expiries due in the queue (log 1). -/
theorem step_idle {s : State} (queue : s.pending = []) (released : s.nreset = false) :
    step s = .next (s.countDown.withPending s.countDown.expiries) := by
  rcases s.tick_eq with ⟨-, asserted⟩ | ⟨e, -⟩
  · rw [released] at asserted
    cases asserted
  · rw [step, queue]
    exact congrArg _ e

/-- Settles O3: the blocks after a millisecond by the bare part and by tower, and the queue by the expiries due. -/
theorem idleStepIsOneMillisecond : Obligations.IdleStepIsOneMillisecond := by
  intro s queue released
  obtain ⟨nreset, console, handler, curves, sheets, drive, poller, press, -⟩ := State.bare_eq_iff.1 s.countDown_bare
  have tower := s.countDown_tower
  have attention := s.countDown_attention
  refine ⟨_, step_idle queue released, ?_⟩
  generalize s.countDown = u at *
  refine ⟨console, poller, ?_, tower, nreset.trans released, handler, curves, sheets, press, attention, fun c => ?_⟩
  · rw [State.withPending_drive, drive]
    cases s.drive.line <;> rfl
  · simp only [State.withPending_pending, State.withPending_console, State.withPending_poller, State.withPending_drive,
      State.withPending_tower, State.mem_expiries, Line.mem_expiries, Tower.mem_expiries, exists_or,
      or_assoc]

/-! ### The state after reset -/

/-- Settles O4: each item by evaluation. -/
theorem resetIsThePowerOnState : Obligations.ResetIsThePowerOnState := by
  have curve : ∀ i, State.reset.curve i = none := fun i => by simp [State.reset, State.curve]
  have tower : ∀ i, State.reset.tower i = Tower.off := fun i => by simp [State.reset, State.tower]
  have source : ∀ i, (State.reset.source i).mask = false ∧ (State.reset.source i).pending = none := by decide
  refine ⟨curve, fun i => ?_, rfl, rfl, rfl, rfl, rfl, rfl, by decide, source, rfl, rfl⟩
  rw [tower]
  exact ⟨rfl, rfl, rfl, rfl, rfl, rfl, rfl, rfl⟩

/-- Settles O5: the power-on state with HOLD low meets each invariant, as every power-on does. -/
theorem resetMeetsEveryInvariant : Obligations.ResetMeetsEveryInvariant := by
  have reset : State.reset = State.reset.powerOn .released := rfl
  have off (i : TowerIx) : State.reset.tower i = Tower.off := by simp [State.reset, State.tower]
  have empty (i : CurveIx) : State.reset.curve i = none := by simp [State.reset, State.curve]
  refine ⟨reset ▸ State.placesOk_powerOn _ _, ⟨⟨rfl, rfl, rfl, rfl⟩, State.attentionOk_fresh rfl, by decide, .refl _⟩,
    reset ▸ State.pollerOk_powerOn _ _, ⟨fun i c hc => ?_, fun i enabled => ?_⟩, State.profilesOk_iff.2 fun i => ?_,
    State.recordsOk_iff.2 fun i => ?_, fun i => ?_, State.targetsOk_iff.2 fun i => ?_, State.keysOk_iff.2 ⟨nofun, fun i => ?_⟩⟩
  · rw [empty] at hc
    cases hc
  · rw [off] at enabled
    cases enabled
  · exact off i ▸ Tower.ProfilesSound.off
  · exact off i ▸ Tower.RecordsSound.off
  · rw [off]
    rfl
  · exact ⟨fun _ => off i ▸ rfl, by rw [off]; exact nofun⟩
  · exact off i ▸ Tower.KeysSound.powerOff _

end Sys2Proof.Machine
end

section
/-! PROOFS. Frames (R1 to R3): a receiver reads the header, then the payload and the two check characters; what is cut
short at any of them is invalid. -/

namespace Sys2Proof.Machine

theorem lineChars_append (bs cs : List Byte) : lineChars (bs ++ cs) = lineChars bs ++ lineChars cs := List.map_append

theorem lineChars_take (bs : List Byte) (n : Nat) : (lineChars bs).take n = lineChars (bs.take n) := by
  simp [lineChars, List.map_take]

/-- The characters that go on no further: the line is idle, or a stop bit is missing (R1). -/
inductive Broken : List RxChar → Prop
  | idle : Broken []
  | noStop (b : Byte) (after : List RxChar) : Broken (⟨b, false⟩ :: after)

/-- Characters that break off before the number asked for are truncated (R1). -/
theorem takeChars_broken {rest : List RxChar} (broken : Broken rest) :
    ∀ (n : Nat) (bs : List Byte), bs.length < n → takeChars n (lineChars bs ++ rest) = none
  | 0, _, short => absurd short (Nat.not_lt_zero _)
  | n + 1, [], _ => by cases broken <;> rfl
  | n + 1, b :: bs, short => by
    have rest_none := takeChars_broken broken n bs (Nat.lt_of_succ_lt_succ short)
    simp [takeChars, rest_none]

theorem lineChars_nil_append (rest : List RxChar) : lineChars [] ++ rest = rest := rfl

theorem receive_header (dest src kind len : Byte) (rest : List RxChar) :
    receive (lineChars [0x5C, dest, src, kind, len] ++ rest) = receiveBody dest src kind len rest := by
  simp [receive, takeChars, Config.startMarker, lineChars_nil_append]

/-- The Length of a payload that fits is the one its byte sends. -/
theorem byteOf_length {payload : List Byte} (len : payload.length ≤ 120) :
    (byteOf payload.length).toNat = payload.length := by
  rw [byteOf_toNat]
  omega

/-- What a receiver makes of a payload and its check characters, by whether the Check is the CRC (R3). -/
theorem receiveBody_frame (dest src kind : Byte) {payload : List Byte} (len : payload.length ≤ 120) (check : Check)
    (after : List RxChar) :
    receiveBody dest src kind (byteOf payload.length) (lineChars (payload ++ be16 check.toNat) ++ after) =
      if check = crcOf (checkedBytes dest src kind payload) then .valid (makeTelegram dest src kind payload)
      else .invalid := by
  have checked := takeChars_lineChars (be16 check.toNat) after
  simp only [receiveBody, Config.maxLength, byteOf_length len, len.not_gt, if_false, lineChars_append, List.append_assoc,
    takeChars_lineChars]
  rw [show takeChars 2 (lineChars (be16 check.toNat) ++ after) = some (be16 check.toNat, after) from checked]
  simp only [be16, u16_be16 check.isLt, BitVec.toNat_inj]

theorem frameOf_eq (t : Telegram) : frameOf t =
    [0x5C, t.dest, t.src, t.kind, byteOf t.payload.length] ++ (t.payload ++ be16 t.check.toNat) := rfl

/-- A whole frame is judged by its Check, whatever follows it. -/
theorem receive_frameOf {t : Telegram} (len : t.payload.length ≤ 120) (after : List RxChar) :
    receive (lineChars (frameOf t) ++ after) =
      if t.check = crcOf (checkedBytes t.dest t.src t.kind t.payload) then
        .valid (makeTelegram t.dest t.src t.kind t.payload)
      else .invalid := by
  rw [frameOf_eq, lineChars_append, List.append_assoc, receive_header, receiveBody_frame _ _ _ len]

/-- A payload with its check characters that breaks off is invalid (R1). -/
theorem receiveBody_broken (dest src kind : Byte) {payload : List Byte} (len : payload.length ≤ 120) (check : Check)
    {rest : List RxChar} (broken : Broken rest) {n : Nat} (short : n < payload.length + 2) :
    receiveBody dest src kind (byteOf payload.length) (lineChars ((payload ++ be16 check.toNat).take n) ++ rest) =
      .invalid := by
  simp only [receiveBody, Config.maxLength, byteOf_length len, len.not_gt, if_false, List.take_append, lineChars_append,
    List.append_assoc]
  rcases Nat.lt_or_ge n payload.length with inPayload | inCheck
  · have none := takeChars_broken broken payload.length (payload.take n) (by simpa using inPayload)
    simp [Nat.sub_eq_zero_of_le inPayload.le, lineChars_nil_append, none]
  · have none := takeChars_broken broken 2 ((be16 check.toNat).take (n - payload.length)) (by simp; omega)
    simp [List.take_of_length_le inCheck, takeChars_lineChars, none]

/-- A frame that breaks off after its start marker is invalid (R1). -/
theorem receive_broken {t : Telegram} (len : t.payload.length ≤ 120) {rest : List RxChar} (broken : Broken rest) {n : Nat}
    (started : 1 ≤ n) (short : n < (frameOf t).length) :
    receive (lineChars ((frameOf t).take n) ++ rest) = .invalid := by
  have whole : (frameOf t).length = 5 + (t.payload.length + 2) := by simp [frameOf_eq, be16]; omega
  rcases Nat.lt_or_ge n 5 with inHeader | inBody
  · obtain ⟨m, rfl⟩ : ∃ m, n = m + 1 := ⟨n - 1, by omega⟩
    have none := takeChars_broken broken 4
      (([t.dest, t.src, t.kind, byteOf t.payload.length] ++ (t.payload ++ be16 t.check.toNat)).take m)
      (by rw [List.length_take]; omega)
    have cut : (frameOf t).take (m + 1) =
        0x5C :: ([t.dest, t.src, t.kind, byteOf t.payload.length] ++ (t.payload ++ be16 t.check.toNat)).take m := rfl
    rw [cut, lineChars_cons, List.cons_append]
    simp only [receive, Config.startMarker, if_true, none]
  · obtain ⟨k, rfl⟩ : ∃ k, n = k + 5 := ⟨n - 5, by omega⟩
    have cut : (frameOf t).take (k + 5) =
        [0x5C, t.dest, t.src, t.kind, byteOf t.payload.length] ++ (t.payload ++ be16 t.check.toNat).take k :=
      rfl
    rw [cut, lineChars_append, List.append_assoc, receive_header]
    exact receiveBody_broken _ _ _ len _ broken (by omega)

/-- Settles O6: whole frames by their Check, those that break off by where they do, the rest by evaluation. -/
theorem framesReceived : Obligations.FramesReceived := by
  refine ⟨fun dest src kind payload after len => ?_, fun t len wrong after => ?_, fun dest src kind l after above => ?_,
    fun t len n started short => ⟨?_, fun b after => ?_⟩, rfl, fun b stop after other => ?_⟩
  · refine ⟨(receive_frameOf (t := makeTelegram dest src kind payload) len after).trans (if_pos rfl), rfl, ?_⟩
    simp
    omega
  · exact (receive_frameOf len after).trans (if_neg wrong)
  · rw [receive_header, receiveBody, Config.maxLength, if_pos above]
  · rw [lineChars_take]
    exact (congrArg receive (List.append_nil _).symm).trans (receive_broken len .idle started short)
  · rw [lineChars_take]
    exact receive_broken len (.noStop b after) started short
  · exact if_neg other

end Sys2Proof.Machine
end

section
/-! PROOFS. Power-on, nRESET and the restarts (R18 to R21). -/

namespace Sys2Proof.Machine

/-! ### Power-on and nRESET -/

/-- While nRESET is asserted only its release and a power-on happen (R21; log 8). -/
theorem exec_nreset {s : State} (asserted : s.nreset = true) {c : Instr} (noPower : ∀ h, c ≠ .powerOn h)
    (noRelease : ∀ h, c ≠ .nresetRelease h) : exec c s = .next s := by
  rcases exec_event c s with ⟨h, is | is⟩ | ⟨u, -, e⟩
  · exact absurd is (noPower h)
  · exact absurd is (noRelease h)
  · rw [e, if_pos asserted]

theorem State.resetAsserted_eq (s : State) : s.resetAsserted = { s with
    nreset := true,
    console := { s.console with lineok := false },
    handler := { s.handler with restart := .idle },
    drive := { s.drive with dlde := false, line := if s.drive.line.isSending then .free else s.drive.line } } := by
  unfold State.resetAsserted State.withLine Line.cutOff
  cases s.drive.line <;> rfl

/-- Settles O7: the power commands by their definition, the rest as events. -/
theorem powerOnAndNreset : Obligations.PowerOnAndNreset := by
  refine ⟨fun s h => ⟨rfl, fun asserted => ?_, fun released => ?_, fun released due => ?_, fun ready idle => ?_⟩,
    fun s ready => ?_, fun s asserted => ⟨fun c => exec_nreset asserted, fun queue => ?_⟩⟩
  · simp only [exec, execNresetRelease, asserted, if_true]
    rfl
  · simp [exec, execNresetRelease, released]
  · have change : (if s.handler.restart = .due .cold then s.powerOn h else s) = s.powerOn h := if_pos due
    refine (event_quiet released ?_).trans (congrArg _ change)
    rw [change]
    rfl
  · exact event_unchanged ready (if_neg idle)
  · exact (event_quiet ready.1 ready.2).trans (congrArg _ s.resetAsserted_eq)
  · rw [step, queue]
    exact congrArg _ (if_pos asserted)

/-! ### WARM (R20) -/

/-- A disabled tower drops its open load (R20, R41). -/
theorem Tower.warm_off {w : Tower} (off : w.setup.enabled = false) (curve : Option Curve) :
    w.warm curve = { w with staged := none, idle := none } := by
  simp [Tower.warm, off]

/-- An enabled tower's records are renewed with the next Generation and its keys recomputed (R20, R37, R81, R123). -/
theorem Tower.warm_on {w : Tower} (on : w.setup.enabled = true) (curve : Option Curve) :
    w.warm curve = Tower.derived { w with
      staged := none, idle := none, generation := nextGeneration w.generation,
      keys := w.keys.map (fun k => k.renewed.computedFrom w curve),
      groups := w.groups.map (fun r => r.renewed (nextGeneration w.generation)) } := by
  simp only [Tower.warm, on, if_true]
  rfl

/-- The round that a WARM restart forces lists every group of the enabled towers: they are all PRESENT (R20, R154). -/
theorem Tower.warm_pollEntries (w : Tower) (curve : Option Curve) (i : TowerIx) (absentToo : Bool) :
    (w.warm curve).pollEntries i absentToo = if (w.warm curve).setup.enabled then
      (w.warm curve).groups.map fun r => ⟨i, r.index, nodeAddress i r.index, (w.warm curve).generation⟩ else [] := by
  cases enabled : w.setup.enabled
  · rw [Tower.warm_off enabled]
    simp [Tower.pollEntries, enabled]
  · rw [Tower.warm_on enabled]
    have present : ∀ r ∈ w.groups.map (fun r => r.renewed (nextGeneration w.generation)),
        (absentToo || r.presence == .present) = true := by
      simp [Group.renewed]
    simp only [Tower.pollEntries, Tower.derived, List.filter_eq_self.2 present, List.map_map]
    rfl

/-- The Poller after a WARM restart: the forced round over the renewed records (R161). -/
theorem State.warmRestart_poller (s : State) (h : HoldLevel) : (s.warmRestart h).poller =
    { s.poller with
      roundNumber := nextRound s.poller.roundNumber, roundPending := false, cursor := 0, inHand := false,
      pollList := (s.warmRestart h).buildPollList (nextRound s.poller.roundNumber % 8 == 0),
      roundActive := !((s.warmRestart h).buildPollList (nextRound s.poller.roundNumber % 8 == 0)).isEmpty } := by
  have poller := (State.bare_eq_iff.1
    (State.foldl_bare State.warmTower_bare allTowers (s.warmBlocks h))).2.2.2.2.2.2.1
  have restarted : s.warmRestart h = (allTowers.foldl State.warmTower (s.warmBlocks h)).startRound := rfl
  rw [restarted]
  generalize allTowers.foldl State.warmTower (s.warmBlocks h) = u at poller ⊢
  simp only [State.startRound, State.withPoller_poller, poller]
  rfl

theorem State.warmRestart_pollList (s : State) (h : HoldLevel) : (s.warmRestart h).poller.pollList =
    allTowers.flatMap fun i => if ((s.warmRestart h).tower i).setup.enabled then
      ((s.warmRestart h).tower i).groups.map fun r =>
        ⟨i, r.index, nodeAddress i r.index, ((s.warmRestart h).tower i).generation⟩ else [] := by
  rw [State.warmRestart_poller]
  refine List.flatMap_congr fun i _ => ?_
  rw [State.warmRestart_towers, Tower.warm_pollEntries]

/-- Settles O8: the blocks by the bare part, the towers one by one, and the forced round. -/
theorem warmRestart : Obligations.WarmRestart := by
  intro s h ready due
  have taken : exec (.warmRestart h) s = .next (s.warmRestart h) := by
    have change : (if s.handler.restart = .due .warm then s.warmRestart h else s) = s.warmRestart h := if_pos due
    refine (event_quiet ready.1 ?_).trans (congrArg _ change)
    rw [change, State.warmRestart_attention]
    rfl
  obtain ⟨nreset, console, handler, curves, sheets, drive, -, press, queue⟩ := State.bare_eq_iff.1 (s.warmRestart_bare h)
  have towers := s.warmRestart_towers h
  have attention := s.warmRestart_attention h
  have poller := s.warmRestart_poller h
  have list := s.warmRestart_pollList h
  refine ⟨_, taken, ?_⟩
  generalize s.warmRestart h = n at *
  refine ⟨console, handler, curves, sheets, queue, nreset.trans ready.1, attention, press, ?_, fun i off => ?_,
    fun i on => ?_, ?_, ?_, list⟩
  · refine drive.trans ?_
    simp only [State.withPoller_drive, State.warmBlocks]
    cases s.drive.line <;> rfl
  · rw [towers, Tower.warm_off off]
  · rw [towers, Tower.warm_on on]
    exact ⟨rfl, rfl, rfl, rfl, rfl, rfl, rfl, rfl⟩
  · rw [poller]
    rfl
  · rw [poller]

end Sys2Proof.Machine
end

section
/-! PROOFS. The console line: reception, the link and its notices, transmission, and RESTART (R6, R13, R16 to R19). -/

namespace Sys2Proof.Machine

/-! ### Reception (R6, R16, R17) -/

theorem exec_consoleTelegramReceived {chars : List RxChar} {t : Telegram} (valid : receive chars = .valid t) (s : State) :
    exec (.consoleTelegramReceived chars) s = event s fun s => s.consoleArrival t := by
  simp only [exec, execConsoleTelegramReceived, valid]

theorem State.placeInbound_room {s : State} (room : s.console.inbound.length < 4) (t : Telegram) :
    s.linkArrival.placeInbound t = { s with console := { s.console with
      link := .up, lineok := true, silence := some 1000, inbound := s.console.inbound ++ [t] } } :=
  if_pos room

theorem State.placeInbound_full {s : State} (full : 4 ≤ s.console.inbound.length) (t : Telegram) :
    s.linkArrival.placeInbound t = State.raise { s with console := { s.console with
      link := .up, lineok := true, silence := some 1000, overruns := satAdd s.console.overruns } } srcLineError .none :=
  if_neg full.not_gt

theorem State.consoleArrival_up {s : State} (link : s.console.link = .up) (t : Telegram) :
    s.consoleArrival t = s.linkArrival.placeInbound t := by
  simp only [State.consoleArrival, link]

theorem State.consoleArrival_lost {s : State} (link : s.console.link = .lost) (t : Telegram) :
    s.consoleArrival t = (s.linkArrival.placeInbound t).restorationNotice := by
  simp only [State.consoleArrival, link]

/-- An occurrence while the link is LOST brings no notice (R183). -/
theorem State.occurred_lost {s : State} (lost : s.console.link = .lost) (i : SourceIx) (d : Detail) :
    s.occurred i d = s.withAttention ⟨s.attention.sources.set i ((s.source i).after d), []⟩ := by
  have none : s.noticeOf i d = [] := by simp [State.noticeOf, lost]
  simp [State.occurred, none, State.withAttention]

/-- The arrival of a valid telegram, by the link and the room in the inbound buffer. -/
theorem consoleTelegramReceived_cases {s : State} {chars : List RxChar} {t : Telegram} (ready : s.ready)
    (valid : receive chars = .valid t) :
    let up : State := { s with console := { s.console with
       link := .up, lineok := true, silence := some 1000, inbound := s.console.inbound ++ [t] } }
    let full : State := { s with console := { s.console with
       link := .up, lineok := true, silence := some 1000, overruns := satAdd s.console.overruns } }
    (s.console.link = .up → s.console.inbound.length < 4 → exec (.consoleTelegramReceived chars) s = .next up) ∧
      (s.console.link = .up → 4 ≤ s.console.inbound.length →
        exec (.consoleTelegramReceived chars) s = .next (full.occurred srcLineError .none)) ∧
      (s.console.link = .lost → s.console.inbound.length < 4 →
        exec (.consoleTelegramReceived chars) s = .next (up.restorationNotice)) ∧
      (s.console.link = .lost → 4 ≤ s.console.inbound.length →
        exec (.consoleTelegramReceived chars) s =
          .next ((full.raiseAll [(srcLineError, .none)]).restorationNotice).judgeNotices) := by
  rw [exec_consoleTelegramReceived valid]
  refine ⟨fun link room => ?_, fun link full => ?_, fun link room => ?_, fun link full => ?_⟩
  · have change := (State.consoleArrival_up link t).trans (State.placeInbound_room room t)
    exact (event_quiet ready.1 (by rw [change]; exact ready.2)).trans (congrArg _ change)
  · have change := (State.consoleArrival_up link t).trans (State.placeInbound_full full t)
    rw [event_released ready.1, change]
    exact congrArg _ (State.raise_judgeNotices (by exact ready.2) _ _)
  · have change := (State.consoleArrival_lost link t).trans (congrArg _ (State.placeInbound_room room t))
    refine (event_quiet ready.1 ?_).trans (congrArg _ change)
    rw [change, State.restorationNotice_attention]
    exact ready.2
  · have change := (State.consoleArrival_lost link t).trans (congrArg _ (State.placeInbound_full full t))
    rw [event_released ready.1, change]
    rfl

/-- The expiry of the silence timer while the link is UP (R16, R143, R185). -/
theorem silenceTimerExpiry_up {s : State} (ready : s.ready) (link : s.console.link = .up) :
    exec .silenceTimerExpiry s = .next { s with
       console := { s.console with link := .lost, lineok := false, silence := none },
       drive := { s.drive with forward := [] },
       attention := ⟨s.attention.sources.set srcLinkLost ((s.source srcLinkLost).after .none), []⟩ } := by
  have change : s.silenceExpired =
      ((s.withConsole { s.console with link := .lost, lineok := false, silence := none }).withDrive
        { s.drive with forward := [] }).raise srcLinkLost .none := by
    simp only [State.silenceExpired, link]
  refine (event_released ready.1 _).trans (congrArg _ ?_)
  rw [change, State.raise_judgeNotices (by exact ready.2), State.occurred_lost rfl]
  rfl

/-- Settles O9: arrivals by the link and the buffer, invalid telegrams by one occurrence, the silence timer by the link. -/
theorem consoleLine : Obligations.ConsoleLine := by
  refine ⟨fun s chars t ready valid => consoleTelegramReceived_cases ready valid, fun s chars ready invalid => ?_,
    fun s ready => ⟨silenceTimerExpiry_up ready, fun link => ?_⟩⟩
  · have change : exec (.consoleTelegramInvalid chars) s = event s State.consoleInvalid := by
      simp only [exec, execConsoleTelegramInvalid, invalid]
    rw [change, event_released ready.1]
    exact congrArg _ (State.raise_judgeNotices (by exact ready.2) _ _)
  · exact event_unchanged ready (by simp only [State.silenceExpired, link])

/-! ### The source selected (R17, R188) -/

theorem State.visible_iff {s : State} {i : SourceIx} :
    s.visible i = true ↔ (s.source i).pending.isSome = true ∧ (s.source i).mask = false := by
  simp [State.visible]

/-- A source comes before another in the selection: by Priority, then by number (R188). -/
def State.Precedes (s : State) (i j : SourceIx) : Prop :=
  (s.source i).priority < (s.source j).priority ∨ ((s.source i).priority = (s.source j).priority ∧ i ≤ j)

theorem State.Precedes.antisymm {s : State} {i j : SourceIx} (h : s.Precedes i j) (h' : s.Precedes j i) : i = j := by
  rcases h with lt | ⟨eq, le⟩ <;> rcases h' with lt' | ⟨eq', le'⟩
  · omega
  · omega
  · omega
  · exact le_antisymm le le'

/-- The selection among the sources of a list: none when none is visible, otherwise the visible one that comes before
every other. -/
def State.Selects (s : State) (l : List SourceIx) : Option SourceIx → Prop
  | none => ∀ j ∈ l, s.visible j = false
  | some i => s.visible i = true ∧ ∀ j ∈ l, s.visible j = true → s.Precedes i j

/-- Reading the sources from the highest number down, the lower number wins a tie (R188). -/
theorem State.selects_foldr (s : State) : ∀ l : List SourceIx, l.Pairwise (· < ·) →
    s.Selects l (l.foldr (betterSource s) none) ∧ ∀ i, l.foldr (betterSource s) none = some i → i ∈ l
  | [], _ => ⟨nofun, nofun⟩
  | i :: l, sorted => by
    obtain ⟨below, sorted⟩ := List.pairwise_cons.1 sorted
    obtain ⟨selects, among⟩ := s.selects_foldr l sorted
    rw [List.foldr_cons]
    generalize l.foldr (betterSource s) none = best at selects among ⊢
    have first : s.Precedes i i := .inr ⟨rfl, le_rfl⟩
    unfold betterSource
    split
    · rename_i visible
      cases best with
      | none =>
        refine ⟨⟨visible, ?_⟩, by simp⟩
        rintro j (- | mem) seen
        · exact first
        · rw [selects j ‹_›] at seen
          cases seen
      | some b =>
        have lower := below b (among b rfl)
        dsimp only
        split
        · rename_i le
          refine ⟨⟨visible, ?_⟩, by simp⟩
          rintro j (- | mem) seen
          · exact first
          · have later := selects.2 j ‹_› seen
            unfold State.Precedes at later ⊢
            rcases later with lt | ⟨eq, order⟩
            · exact .inl (le.trans_lt lt)
            · exact (le.lt_or_eq).imp (eq ▸ ·) fun same => ⟨same.trans eq, (lower.trans_le order).le⟩
        · rename_i worse
          refine ⟨⟨selects.1, ?_⟩, fun j is => .tail _ (among j is)⟩
          rintro j (- | mem) seen
          · exact .inl (Nat.lt_of_not_le worse)
          · exact selects.2 j ‹_› seen
    · rename_i hidden
      refine ⟨?_, fun j is => .tail _ (among j is)⟩
      cases best with
      | none =>
        rintro j (- | mem)
        · simpa using hidden
        · exact selects j ‹_›
      | some b =>
        refine ⟨selects.1, ?_⟩
        rintro j (- | mem) seen
        · exact absurd seen hidden
        · exact selects.2 j ‹_› seen

theorem mem_allSources (i : SourceIx) : i ∈ allSources := by revert i; decide

theorem State.selectSource_selects (s : State) : s.Selects allSources s.selectSource :=
  (s.selects_foldr allSources (by decide)).1

/-- The source selected, characterized (R17, R188). -/
theorem State.selectSource_eq_some {s : State} {i : SourceIx} : s.selectSource = some i ↔
    s.visible i = true ∧ ∀ j, s.visible j = true → s.Precedes i j := by
  have selects := s.selectSource_selects
  cases selected : s.selectSource with
  | none =>
    rw [selected] at selects
    refine ⟨nofun, fun h => ?_⟩
    have hidden := selects i (mem_allSources i)
    rw [h.1] at hidden
    cases hidden
  | some b =>
    rw [selected] at selects
    obtain ⟨seen, before⟩ := selects
    constructor
    · rintro ⟨⟩
      exact ⟨seen, fun j => before j (mem_allSources j)⟩
    · rintro ⟨seen', before'⟩
      exact congrArg some ((before i (mem_allSources i) seen').antisymm (before' b seen))

theorem State.selectSource_eq_none {s : State} : s.selectSource = none ↔ ∀ j, s.visible j = false := by
  have selects := s.selectSource_selects
  cases selected : s.selectSource with
  | none =>
    rw [selected] at selects
    exact ⟨fun _ j => selects j (mem_allSources j), fun _ => rfl⟩
  | some b =>
    rw [selected] at selects
    refine ⟨nofun, fun h => ?_⟩
    have seen := selects.1
    rw [h b] at seen
    cases seen

theorem State.restorationNotice_selected {s : State} {i : SourceIx} {o : Occurrence} (selected : s.selectSource = some i)
    (pending : (s.source i).pending = some o) (places : 4 ≤ s.console.freePlaces) :
    s.restorationNotice = s.send (noticeTelegram i (s.source i).priority o) := by
  simp [State.restorationNotice, selected, pending, Config.noticePlaces, places]

theorem State.restorationNotice_none {s : State} (h : s.selectSource = none ∨ s.console.freePlaces < 4) :
    s.restorationNotice = s := by
  unfold State.restorationNotice
  split
  · rfl
  · rename_i i selected
    split
    · rfl
    · rcases h with none | few
      · rw [selected] at none
        cases none
      · exact if_neg few.not_ge

/-- Settles O10. -/
theorem selectedSource : Obligations.SelectedSource := by
  refine fun s => ⟨fun i => ?_, ?_, fun i o => State.restorationNotice_selected, State.restorationNotice_none⟩
  · rw [State.selectSource_eq_some]
    simp only [State.visible_iff, and_imp]
    rfl
  · rw [State.selectSource_eq_none]
    simp only [Bool.eq_false_iff, Ne, State.visible_iff, not_and, not_not]

end Sys2Proof.Machine
end

section
/-! PROOFS. The Management Handler: taking and routing a telegram, its one answer, and refusals (R8 to R14, R19). -/

namespace Sys2Proof.Machine

/-! ### Taking (R8, R9) -/

/-- A Handler that can take a telegram routes the oldest one. -/
theorem State.handlerTake_taken {s : State} {t : Telegram} {rest : List Telegram} (inbound : s.console.inbound = t :: rest)
    (empty : s.handler.hand = none) (idle : s.handler.restart = .idle) (place : 1 ≤ s.console.freePlaces) :
    s.handlerTake = (s.taken t rest).route t := by
  have ready : s.handlerReady = true := State.handlerReady_iff.2 ⟨empty, idle, by simp [inbound]⟩
  simp only [State.handlerTake, inbound, ready, place, decide_true, Bool.and_self, if_true]
  rfl

/-- A Handler that cannot take a telegram takes none (R8). -/
theorem State.handlerTake_none {s : State} (h : s.console.inbound = [] ∨ s.handler.hand.isSome = true ∨
    s.handler.restart ≠ .idle ∨ s.console.freePlaces = 0) : s.handlerTake = s := by
  have not_ready : (s.handlerReady && decide (1 ≤ s.console.freePlaces)) = false := by
    rw [Bool.and_eq_false_iff, Bool.eq_false_iff, Ne, State.handlerReady_iff, decide_eq_false_iff_not]
    rcases h with empty | held | waits | full
    · exact .inl fun ready => ready.2.2 empty
    · exact .inl fun ready => by simp [ready.1] at held
    · exact .inl fun ready => waits ready.2.1
    · exact .inr (by omega)
  unfold State.handlerTake
  split
  · rfl
  · rw [if_neg (by simp [not_ready])]

/-- The Handler takes the oldest telegram and routes it, when the routing raises nothing. -/
theorem exec_handlerTake {s u : State} {t : Telegram} {rest : List Telegram} (ready : s.ready)
    (inbound : s.console.inbound = t :: rest) (empty : s.handler.hand = none) (idle : s.handler.restart = .idle)
    (place : 1 ≤ s.console.freePlaces) (route : (s.taken t rest).route t = u) (quiet : u.attention.due = []) :
    exec .handlerTake s = .next u := by
  have change := (State.handlerTake_taken inbound empty idle place).trans route
  exact (event_quiet ready.1 (by rw [change]; exact quiet)).trans (congrArg _ change)

@[simp] theorem kindOf_code (k : Kind) : kindOf k.code = some k := by cases k <;> rfl

theorem kindOf_eq_none {code : Byte} (h : ∀ k : Kind, code ≠ k.code) : kindOf code = none := by
  rw [kindOf, List.find?_eq_none]
  intro k _
  simpa using fun is => h k is.symm

@[simp] theorem targetOf_code (x : Target) : targetOf x.code = some x := by cases x <;> rfl

theorem targetOf_eq_none {code : Byte} (h : ∀ x : Target, code ≠ x.code) : targetOf code = none := by
  rw [targetOf, List.find?_eq_none]
  intro x _
  simpa using fun is => h x is.symm

theorem Kind.code_injective {k k' : Kind} (h : k.code = k'.code) : k = k' :=
  Option.some.inj ((kindOf_code k).symm.trans ((congrArg kindOf h).trans (kindOf_code k')))

theorem Target.code_injective {x x' : Target} (h : x.code = x'.code) : x = x' :=
  Option.some.inj ((targetOf_code x).symm.trans ((congrArg targetOf h).trans (targetOf_code x')))

theorem Manages.ne_query {c : Instr} {k : Kind} {rules : State → List Byte → Answer} (m : Manages c k rules) :
    k ≠ .query := by
  cases m <;> exact nofun

/-- A telegram that a command executes is refused by no name (R10, R191). -/
theorem unnamedRefusal_of_executes {c : Instr} {t : Telegram} (h : executes c t = true) : unnamedRefusal t = none := by
  rcases executes_cases h with ⟨k, rules, m, kind⟩ | ⟨x, snapshot, a, kind, target⟩
  · have query := m.ne_query
    rw [unnamedRefusal, kind, kindOf_code]
    cases k <;> simp_all
  · obtain ⟨rest, payload⟩ : ∃ rest, t.payload = x.code :: rest := by
      cases e : t.payload <;> simp_all
    have isQuery : kindOf t.kind = some .query := by rw [kind]; rfl
    simp [unnamedRefusal, isQuery, payload]

/-- A QUERY that names no target is refused by its Length, or else by its target (R191). -/
theorem unnamedRefusal_query {t : Telegram} (kind : t.kind = 0x58) (unnamed : ∀ x : Target, t.payload.head? ≠ some x.code) :
    unnamedRefusal t =
      some (0x81, if 1 ≤ t.payload.length ∧ t.payload.length ≤ 5 then .badField else .badLength) := by
  have isQuery : kindOf t.kind = some .query := by rw [kind]; rfl
  cases payload : t.payload with
  | nil => simp [unnamedRefusal, isQuery, payload, Config.kindQueryData]
  | cons target rest =>
    have none : targetOf target = none := targetOf_eq_none fun x is => unnamed x (by simp [payload, is])
    simp only [unnamedRefusal, isQuery, payload, none, Kind.lengthOk, Option.isSome_none, Bool.and_eq_true,
      decide_eq_true_eq, Config.kindQueryData]
    exact (apply_ite (fun r => some (_, r)) _ _ _).symm

theorem State.route_named {s : State} {t : Telegram} (own : t.dest = 0x08) (named : unnamedRefusal t = none) :
    s.route t = s := by
  simp [State.route, own, Config.ownNode, named]

theorem State.route_unnamed {s : State} {t : Telegram} {kind : Byte} {r : Result} (own : t.dest = 0x08)
    (refusal : unnamedRefusal t = some (kind, r)) : s.route t = s.answered kind t r [] := by
  rw [← State.answerHeld_eq_answered]
  simp [State.route, own, Config.ownNode, refusal]

theorem forwardRoute_iff {dest : Byte} :
    forwardRoute dest = true ↔ (0x20 ≤ dest.toNat ∧ dest.toNat ≤ 0x4F) ∨ dest = 0xFF := by
  have parts : (nodeParts dest).isSome = true ↔ 0x20 ≤ dest.toNat ∧ dest.toNat ≤ 0x4F := by
    unfold nodeParts
    split <;> simp <;> omega
  simp [forwardRoute, parts, Config.broadcastNode]

/-- Settles O11: each telegram by its routing. -/
theorem handlerTakesAndRefuses : Obligations.HandlerTakesAndRefuses := by
  refine fun s ready => ⟨fun t rest inbound empty idle place => ?_, fun h => event_unchanged ready (State.handlerTake_none h)⟩
  have take {u : State} (route : (s.taken t rest).route t = u) (quiet : u.attention.due = s.attention.due) :
      exec .handlerTake s = .next u :=
    exec_handlerTake ready inbound empty idle place route (quiet.trans ready.2)
  refine ⟨fun c own executed => ?_, fun own unknown => ?_, fun own kind unnamed => ?_, fun own drive broadcast => ?_⟩
  · exact take (State.route_named own (unnamedRefusal_of_executes executed)) rfl
  · have refusal : unnamedRefusal t = some (0x80, .unknownKind) := by
      rw [unnamedRefusal, kindOf_eq_none unknown]
      rfl
    exact take (State.route_unnamed own refusal) rfl
  · exact take (State.route_unnamed own (unnamedRefusal_query kind unnamed)) rfl
  · have off : forwardRoute t.dest = false := by
      rw [Bool.eq_false_iff, Ne, forwardRoute_iff]
      exact fun h => h.elim drive broadcast
    refine take (u := State.answered _ 0x80 t .noRoute [t.dest]) ?_ rfl
    rw [← State.answerHeld_eq_answered]
    simp only [State.route, Config.ownNode, own, if_false, off, Bool.false_eq_true]
    rfl

/-! ### The forward queue (R12, R139) -/

/-- The Handler that has dropped its telegram is the one that held none. -/
theorem State.taken_dropHeld {s : State} (empty : s.handler.hand = none) (t : Telegram) (rest : List Telegram) :
    (s.taken t rest).dropHeld =
      { s with console := { s.console with inbound := rest, reservedHandler := false } } := by
  obtain ⟨_, _, ⟨hand, restart⟩, _, _, _, _, _, _, _, _⟩ := s
  cases empty
  rfl

theorem nodeAddress_ne_own (i : TowerIx) (g : GroupIx) : nodeAddress i g ≠ 0x08 := by revert i g; decide

theorem forwardDetail_broadcast : forwardDetail 0xFF = .none := by decide

/-- Settles O12: a telegram offered to the forward queue, case by case. -/
theorem handlerForwards : Obligations.HandlerForwards := by
  intro s t rest detail ready inbound empty idle place destination
  have offered : (s.taken t rest).route t = (s.taken t rest).offerForward t := by
    have notOwn : t.dest ≠ 0x08 := by
      rcases destination with ⟨is, -⟩ | ⟨i, g, is, -⟩ <;> rw [is]
      · decide
      · exact nodeAddress_ne_own i g
    have forwarded : forwardRoute t.dest = true := by
      rcases destination with ⟨is, -⟩ | ⟨i, g, is, -⟩ <;> rw [is]
      · decide
      · simp [forwardRoute]
    simp only [State.route, Config.ownNode, notOwn, if_false, forwarded, if_true]
  have of : forwardDetail t.dest = detail := by
    rcases destination with ⟨is, rfl⟩ | ⟨i, g, is, rfl⟩ <;> rw [is]
    · exact forwardDetail_broadcast
    · simp [forwardDetail]
  have dropped := State.taken_dropHeld empty t rest
  have refused (r : Result) : (s.taken t rest).answerHeld (forwardRefusal r t) =
      State.replied { s with console := { s.console with inbound := rest, reservedHandler := false } } t r [t.dest] := rfl
  have take {u : State} (route : (s.taken t rest).offerForward t = u) (quiet : u.attention.due = s.attention.due) :
      exec .handlerTake s = .next u :=
    exec_handlerTake ready inbound empty idle place (offered.trans route) (quiet.trans ready.2)
  dsimp only
  split
  · rename_i lost
    exact take ((if_pos lost).trans dropped) rfl
  · rename_i up
    have onLine : ¬ (s.taken t rest).console.link = .lost := up
    split
    · rename_i held
      have moves : t.kind = Config.kindMove ∧ (s.taken t rest).press.hold = .asserted := held
      refine take ?_ rfl
      rw [State.offerForward, if_neg onLine, if_pos moves, refused]
    · rename_i free
      have passes : ¬ (t.kind = Config.kindMove ∧ (s.taken t rest).press.hold = .asserted) := free
      split
      · rename_i full
        have filled : Config.forwardPlaces ≤ (s.taken t rest).drive.forward.length := full
        have change := (State.handlerTake_taken inbound empty idle place).trans offered
        rw [State.offerForward, if_neg onLine, if_neg passes, if_pos filled, refused, of] at change
        refine (event_released ready.1 _).trans (congrArg _ ?_)
        rw [change]
        exact State.raise_judgeNotices (by exact ready.2) _ _
      · rename_i space
        have room : ¬ Config.forwardPlaces ≤ (s.taken t rest).drive.forward.length := space
        refine take ?_ rfl
        rw [State.offerForward, if_neg onLine, if_neg passes, if_neg room, dropped]
        rfl

end Sys2Proof.Machine
end

section
/-! PROOFS. Answers and refusals: a telegram to the ZK412 has one answer, and a refusal changes nothing else (R10, R11,
R191). -/

namespace Sys2Proof.Machine

/-! ### The answer to a telegram -/

/-- A telegram of the kind is answered by the kind's rules, or for its Length. -/
theorem executeHeld_of_kind {s : State} {k : Kind} {t : Telegram} (hand : s.handler.hand = some t) (kind : t.kind = k.code)
    (rules : State → List Byte → Answer) : executeHeld k rules s = if k.lengthOk t.payload.length then
      (rules s t.payload).state.answered 0x80 t (rules s t.payload).result (rules s t.payload).data
      else s.answered 0x80 t .badLength [] := by
  simp only [executeHeld, hand, kind, if_true, ← State.answerHeld_eq_answered, Config.kindReply]

theorem executeQuery_of_hand {s : State} {x : Target} {snapshot : State → List Byte → Snapshot} {t : Telegram}
    (hand : s.handler.hand = some t) (kind : t.kind = 0x58) (target : t.payload.head? = some x.code) :
    ∃ r data, executeQuery x snapshot s = s.answered 0x81 t r data := by
  have named : t.kind = Kind.query.code ∧ t.payload.head? = some x.code := ⟨kind, target⟩
  unfold executeQuery
  rw [hand]
  dsimp only
  rw [if_pos named]
  split
  · split <;> exact ⟨_, _, State.answerHeld_eq_answered _ _ _ _ _⟩
  · exact ⟨_, _, State.answerHeld_eq_answered _ _ _ _ _⟩

theorem Manages.kind_ne {c : Instr} {k : Kind} {rules : State → List Byte → Answer} (m : Manages c k rules) :
    k.code ≠ 0x58 := fun is => m.ne_query (Kind.code_injective is)

/-- A rule's answer that is no refusal, or that leaves the state as it was (R10). -/
def Answer.Clean (a : Answer) (s : State) : Prop := a.result = .ok ∨ a.result = .clamped ∨ a.state = s

theorem Answer.Clean.refuse (s : State) (r : Result) (data : List Byte) : (refuse s r data).Clean s := .inr (.inr rfl)

theorem Answer.Clean.ok {s u : State} {data : List Byte} : Answer.Clean ⟨u, .ok, data⟩ s := .inl rfl

theorem Answer.Clean.ofClamped {s u : State} {b : Bool} {data : List Byte} : Answer.Clean ⟨u, .ofClamped b, data⟩ s := by
  cases b
  · exact .inl rfl
  · exact .inr (.inl rfl)

/-- An answer with a refusal's code comes with the state as it was. -/
theorem Answer.Clean.refused {a : Answer} {s : State} (clean : a.Clean s) (code : 0x10 ≤ a.result.code.toNat) :
    a.state = s := by
  rcases clean with ok | clamped | same
  · rw [ok] at code
    exact absurd code (by decide)
  · rw [clamped] at code
    exact absurd code (by decide)
  · exact same

/-! ### The rules of the kinds refuse cleanly -/

theorem towerSetupRules_clean (s : State) (p : List Byte) : (towerSetupRules s p).Clean s := by
  unfold towerSetupRules
  split
  · exact .ok
  · exact .refuse s _ _
  · exact .refuse s _ _

theorem curveLoadRules_clean (s : State) (p : List Byte) : (curveLoadRules s p).Clean s := by
  simp only [curveLoadRules]
  split
  · exact .refuse s _ _
  · split
    · split
      · exact .refuse s _ _
      · exact .ok
    · exact .refuse s _ _

theorem towerTrimRules_clean (s : State) (p : List Byte) : (towerTrimRules s p).Clean s := by
  simp only [towerTrimRules]
  split
  · exact .refuse s _ _
  · split
    · exact .ofClamped
    · exact .refuse s _ _

theorem State.breakLoad_none {s : State} {i : TowerIx} (closed : (s.tower i).loading = none) : s.breakLoad i = s := by
  simp only [State.breakLoad, closed]

/-- A PROFILE_BEGIN that breaks no load (R43). -/
theorem profileBeginRules_clean {s : State} (closed : ∀ i, (s.tower i).loading = none) (p : List Byte) :
    (profileBeginRules s p).Clean s := by
  unfold profileBeginRules
  split
  · exact .refuse s _ _
  · split
    · split
      · simp only [State.breakLoad_none (closed _)]
        split
        · exact .refuse s _ _
        · exact .ok
      · exact .refuse s _ _
      · exact .refuse s _ _
    · exact .refuse s _ _

theorem profileZonesRules_clean (s : State) (p : List Byte) : (profileZonesRules s p).Clean s := by
  simp only [profileZonesRules]
  split
  · exact .refuse s _ _
  · split
    · exact .refuse s _ _
    · split
      · exact .refuse s _ _
      · split
        · exact .refuse s _ _
        · exact .ofClamped

theorem profileEndRules_clean (s : State) (p : List Byte) : (profileEndRules s p).Clean s := by
  unfold profileEndRules
  split
  · exact .refuse s _ _
  · split
    · exact .refuse s _ _
    · exact .ok

theorem jobCommitRules_clean (s : State) (p : List Byte) : (jobCommitRules s p).Clean s := by
  simp only [jobCommitRules]
  split
  · exact .refuse s _ _
  · split
    · exact .refuse s _ _
    · split
      · exact .refuse s _ _
      · split
        · exact .refuse s _ _
        · split
          · exact .refuse s _ _
          · exact .ok

theorem keyTrimRules_clean (s : State) (p : List Byte) : (keyTrimRules s p).Clean s := by
  simp only [keyTrimRules]
  split
  · exact .refuse s _ _
  · split
    · exact .refuse s _ _
    · split
      · exact .refuse s _ _
      · split
        · exact .refuse s _ _
        · exact .ofClamped

theorem densityReportRules_clean (s : State) (p : List Byte) : (densityReportRules s p).Clean s := by
  simp only [densityReportRules]
  split
  · exact .refuse s _ _
  · split
    · exact .refuse s _ _
    · split
      · exact .refuse s _ _
      · split
        · exact .refuse s _ _
        · exact .ofClamped

theorem faultClearRules_clean (s : State) (p : List Byte) : (faultClearRules s p).Clean s := by
  simp only [faultClearRules]
  split
  · exact .refuse s _ _
  · split
    · exact .refuse s _ _
    · split
      · exact .refuse s _ _
      · exact .ok

theorem attentionConfigRules_clean (s : State) (p : List Byte) : (attentionConfigRules s p).Clean s := by
  simp only [attentionConfigRules]
  split
  · exact .refuse s _ _
  · split
    · exact .refuse s _ _
    · split
      · exact .refuse s _ _
      · exact .ok

theorem attentionPollRules_clean (s : State) (p : List Byte) : (attentionPollRules s p).Clean s := by
  simp only [attentionPollRules]
  split
  · exact .ok
  · split <;> exact .ok

/-- A refusal by the rules of a kind leaves the state as it was; PROFILE_BEGIN when it breaks no load (R10, R43). -/
theorem Manages.clean {c : Instr} {k : Kind} {rules : State → List Byte → Answer} (m : Manages c k rules) {s : State}
    (closed : c = .profileBegin → ∀ i, (s.tower i).loading = none) (p : List Byte) : (rules s p).Clean s := by
  cases m with
  | towerSetup => exact towerSetupRules_clean s p
  | curveLoad => exact curveLoadRules_clean s p
  | towerTrim => exact towerTrimRules_clean s p
  | profileBegin => exact profileBeginRules_clean (closed rfl) p
  | profileZones => exact profileZonesRules_clean s p
  | profileEnd => exact profileEndRules_clean s p
  | jobCommit => exact jobCommitRules_clean s p
  | keyTrim => exact keyTrimRules_clean s p
  | densityReport => exact densityReportRules_clean s p
  | faultClear => exact faultClearRules_clean s p
  | sweepConfig =>
    simp only [sweepConfigRules]
    split
    · exact .refuse s _ _
    · exact .ofClamped
  | pressState =>
    unfold pressStateRules
    split
    · exact .refuse s _ _
    · exact .ok
  | mode =>
    unfold modeRules
    split
    · exact .refuse s _ _
    · exact .ok
  | attentionConfig => exact attentionConfigRules_clean s p
  | attentionPoll => exact attentionPollRules_clean s p
  | restart =>
    unfold restartRules
    split
    · exact .refuse s _ _
    · exact .ok

/-! ### The answer of an event -/

/-- What the command of a telegram in hand does: its answer on the state that the rules leave, whose transmit queue is as
it was; a refusal leaves the whole state as it was. -/
theorem exec_executes {c : Instr} {s : State} {t : Telegram} (ready : s.ready) (hand : s.handler.hand = some t)
    (executed : executes c t = true) : ∃ u r data,
      exec c s = .next (u.answered (if t.kind = 0x58 then 0x81 else 0x80) t r data).judgeNotices ∧
      u.console = s.console ∧
      ((c = .profileBegin → ∀ i, (s.tower i).loading = none) → 0x10 ≤ r.code.toNat → u = s) := by
  rcases executes_cases executed with ⟨k, rules, m, kind⟩ | ⟨x, snapshot, a, kind, target⟩
  · rw [kind, if_neg m.kind_ne, m.exec_eq, management, event_released ready.1, executeHeld_of_kind hand kind]
    split
    · exact ⟨(rules s t.payload).state, _, _, rfl, (m.lines_kept s _).2.1, fun closed => (m.clean closed _).refused⟩
    · exact ⟨s, _, _, rfl, rfl, fun _ _ => rfl⟩
  · obtain ⟨r, data, e⟩ := executeQuery_of_hand (snapshot := snapshot) hand kind target
    rw [kind, if_pos rfl, a.exec_eq, query, event_released ready.1, e]
    exact ⟨s, r, data, rfl, rfl, fun _ _ => rfl⟩

theorem noticeTelegram_payload_length (i : SourceIx) (p : Nat) (o : Occurrence) :
    (noticeTelegram i p o).payload.length = 6 := by
  obtain ⟨_, d⟩ := o
  cases d <;> rfl

/-- The answer joins the queue before the notices of its event (R11, R183). -/
theorem State.answered_judgeNotices (u : State) (kind : Byte) (t : Telegram) (r : Result) (data : List Byte) :
    ∃ notices : List Telegram, (u.answered kind t r data).judgeNotices.console.tx =
        u.console.tx ++ makeTelegram 0x01 0x08 kind (t.kind :: r.code :: data) :: notices ∧
      (u.answered kind t r data).judgeNotices.handler.hand = none ∧
      (u.answered kind t r data).judgeNotices.console.reservedHandler = false ∧
      ∀ m ∈ notices, ∃ i p o, m = noticeTelegram i p o := by
  obtain ⟨notices, e, all⟩ := (u.answered kind t r data).judgeNotices_cases
  refine ⟨notices, ?_, ?_, ?_, all⟩ <;> rw [e]
  · simp [State.answered]
  · rfl
  · rfl

/-- Settles O13. -/
theorem eachTelegramHasOneAnswer : Obligations.EachTelegramHasOneAnswer := by
  intro c s t ready hand executed
  obtain ⟨u, r, data, e, console, -⟩ := exec_executes ready hand executed
  obtain ⟨notices, tx, none, released, all⟩ :=
    u.answered_judgeNotices (if t.kind = 0x58 then 0x81 else 0x80) t r data
  rw [console] at tx
  refine ⟨_, _, notices, e, tx, none, released, rfl, rfl, rfl, rfl, by simp [makeTelegram], fun m mem => ?_⟩
  obtain ⟨i, p, o, rfl⟩ := all m mem
  exact ⟨rfl, rfl, rfl, noticeTelegram_payload_length i p o⟩

/-- A management telegram of a wrong Length is refused (R10). -/
theorem exec_badLength {c : Instr} {s : State} {t : Telegram} (ready : s.ready) (hand : s.handler.hand = some t)
    (executed : executes c t = true) {k : Kind} (kind : t.kind = k.code) (managed : k ≠ .query)
    (wrong : k.lengthOk t.payload.length = false) : exec c s = .next (s.replied t .badLength []) := by
  rcases executes_cases executed with ⟨k', rules, m, kind'⟩ | ⟨x, snapshot, a, kind', -⟩
  · obtain rfl := Kind.code_injective (kind.symm.trans kind')
    have refused : executeHeld k rules s = s.replied t .badLength [] := by
      rw [executeHeld_of_kind hand kind, if_neg (by simp [wrong])]
      rfl
    rw [m.exec_eq, management]
    exact (event_quiet ready.1 (by rw [refused]; exact ready.2)).trans (congrArg _ refused)
  · exact absurd (Kind.code_injective (k' := .query) (kind.symm.trans kind')) managed

/-- A QUERY of a wrong Length for its target is refused (R191). -/
theorem exec_query_badLength {c : Instr} {s : State} {t : Telegram} (ready : s.ready) (hand : s.handler.hand = some t)
    (executed : executes c t = true) {x : Target} (kind : t.kind = 0x58) (target : t.payload.head? = some x.code)
    (wrong : t.payload.length ≠ x.length) : exec c s = .next (s.answered 0x81 t .badLength []) := by
  rcases executes_cases executed with ⟨k', rules, m, kind'⟩ | ⟨x', snapshot, a, -, target'⟩
  · exact absurd (kind'.symm.trans kind) m.kind_ne
  · obtain rfl := Target.code_injective (Option.some.inj (target.symm.trans target'))
    have refused : executeQuery x snapshot s = s.answered 0x81 t .badLength [] := by
      have named : t.kind = Kind.query.code ∧ t.payload.head? = some x.code := ⟨kind, target⟩
      simp only [executeQuery, hand, named, wrong, and_self, if_true, if_false, ← State.answerHeld_eq_answered,
        Config.kindQueryData]
    rw [a.exec_eq, query]
    exact (event_quiet ready.1 (by rw [refused]; exact ready.2)).trans (congrArg _ refused)

/-- Settles O14: the Length by the shape of the command, the rules by the state that a refusal leaves. -/
theorem refusalsChangeNothing : Obligations.RefusalsChangeNothing := by
  refine ⟨fun c s t ready hand executed => ⟨fun k => exec_badLength ready hand executed,
    fun x => exec_query_badLength ready hand executed⟩, ?_⟩
  intro c s n t answer notices ready hand executed closed run tx code
  obtain ⟨u, r, data, e, console, refused⟩ := exec_executes ready hand executed
  obtain rfl := Host.Outcome.next.inj (run.symm.trans e)
  obtain ⟨sent, tx', -⟩ := u.answered_judgeNotices (if t.kind = 0x58 then 0x81 else 0x80) t r data
  rw [tx', console] at tx
  obtain ⟨rfl, rfl⟩ := List.cons.inj (List.append_cancel_left tx)
  obtain rfl : u = s := refused closed code
  rw [State.judgeNotices_of_none_due (by exact ready.2)] at tx' ⊢
  have alone : [_] = _ :: sent := List.append_cancel_left tx'
  exact ⟨(List.cons.inj alone).2.symm, rfl⟩

/-! ### RESTART and transmission (R13, R19) -/

/-- Settles O15. -/
theorem restartAndTransmit : Obligations.RestartAndTransmit := by
  refine ⟨fun s t b held payload => ?_, fun s t rest ready queue => ?_⟩
  · have byte : byteAt t.payload 0 = b.toNat := by rw [payload]; rfl
    have waits {k : RestartKind} (asked : restartOf b.toNat = some k) : exec .restart s = .next
        { s.replied t .ok [] with handler := ⟨none, .waiting k (s.console.tx.length + 1)⟩ } := by
      refine (management_quiet held (a := ⟨s.withHandler { s.handler with
        restart := .waiting k (s.console.tx.length + 1) }, .ok, []⟩) ?_ held.1.2).trans rfl
      simp only [restartRules, byte, asked]
    refine ⟨fun warm => waits (by rw [warm]; rfl), fun cold => waits (by rw [cold]; rfl), fun notWarm notCold => ?_⟩
    refine management_refused held ?_
    have none : restartOf b.toNat = none := by
      unfold restartOf
      split
      · exact absurd (BitVec.eq_of_toNat_eq ‹_›) notWarm
      · exact absurd (BitVec.eq_of_toNat_eq ‹_›) notCold
      · rfl
    simp only [restartRules, byte, none]
  · have change : s.transmitted = (s.withConsole { s.console with tx := rest }).withHandler
        { s.handler with restart := s.handler.restart.transmitted } := by
      simp only [State.transmitted, queue]
    refine (event_quiet ready.1 (by rw [change]; exact ready.2)).trans (congrArg _ (change.trans ?_))
    unfold Restart.transmitted
    rcases s.handler.restart with _ | ⟨k, _ | _ | n⟩ | _ <;> rfl

end Sys2Proof.Machine
end

section
/-! PROOFS. The Attention Unit: occurrences merge source by source, notices are judged in order (R181 to R188). -/

namespace Sys2Proof.Machine

/-! ### Occurrences -/

theorem SourceRecord.after_none {r : SourceRecord} (clear : r.pending = none) (d : Detail) :
    r.after d = { r with pending := some ⟨1, d⟩ } := by
  simp only [SourceRecord.after, clear]

theorem SourceRecord.after_some {r : SourceRecord} {o : Occurrence} (pending : r.pending = some o) (d : Detail) :
    r.after d = { r with pending := some { o with count := Machine.mergeCount o.count } } := by
  simp only [SourceRecord.after, pending]

theorem mergeCount_eq_min {n : Nat} (h : n ≤ 255) : mergeCount n = min 255 (n + 1) := by
  unfold mergeCount
  split <;> omega

/-- A pending source merges every further occurrence (R182). -/
theorem SourceRecord.foldl_after_some : ∀ (more : List Detail) {r : SourceRecord} {o : Occurrence}, r.pending = some o →
    o.count ≤ 255 → more.foldl SourceRecord.after r =
      { r with pending := some { o with count := min 255 (o.count + more.length) } }
  | [], r, o, pending, range => by
    rw [List.length_nil, Nat.add_zero, Nat.min_eq_right range, List.foldl_nil, ← pending]
  | d :: more, r, o, pending, range => by
    have merged := SourceRecord.foldl_after_some more (r := r.after d) (o := { o with count := Machine.mergeCount o.count })
      (by rw [SourceRecord.after_some pending]) (mergeCount_bounds range).2
    have count : min 255 (Machine.mergeCount o.count + more.length) = min 255 (o.count + (more.length + 1)) := by
      rw [mergeCount_eq_min range]
      omega
    rw [List.foldl_cons, merged, SourceRecord.after_some pending, count, List.length_cons]

/-- A clear source latches the first occurrence and merges the others (R182). -/
theorem SourceRecord.foldl_after_none {r : SourceRecord} (clear : r.pending = none) (d : Detail) (more : List Detail) :
    (d :: more).foldl SourceRecord.after r = { r with pending := some ⟨min 255 (1 + more.length), d⟩ } := by
  rw [List.foldl_cons, SourceRecord.after_none clear, SourceRecord.foldl_after_some more rfl (show 1 ≤ 255 by decide)]

/-- Each source takes its own occurrences, in their order (R182). -/
theorem State.raiseAll_source (raised : List (SourceIx × Detail)) (i : SourceIx) : ∀ s : State,
    (s.raiseAll raised).source i =
      ((raised.filter fun o => o.1 = i).map Prod.snd).foldl SourceRecord.after (s.source i) := by
  induction raised with
  | nil => exact fun s => rfl
  | cons o raised ih =>
    intro s
    rw [State.raiseAll_cons, ih, State.raise_source]
    by_cases own : o.1 = i
    · simp [own]
    · simp [own, Ne.symm own]

/-- The sources that were clear become due in the order in which each first became pending (R183). -/
theorem State.raiseAll_due (raised : List (SourceIx × Detail)) : ∀ s : State, (s.raiseAll raised).attention.due =
    s.attention.due ++ ((raised.map Prod.fst).filter fun i => (s.source i).pending.isNone).eraseDups := by
  induction raised with
  | nil => exact fun s => (List.append_nil _).symm
  | cons o raised ih =>
    intro s
    have pending (j : SourceIx) : ((s.raise o.1 o.2).source j).pending.isNone =
        (j != o.1 && (s.source j).pending.isNone) := by
      rw [State.raise_source]
      split
      · rename_i own
        subst own
        unfold SourceRecord.after
        cases (s.source o.1).pending <;> simp
      · rename_i other
        simp [other]
    rw [State.raiseAll_cons, ih, State.raise_due, List.map_cons, List.append_assoc]
    congr 1
    simp only [pending]
    cases clear : (s.source o.1).pending with
    | none =>
      rw [if_pos rfl, List.filter_cons_of_pos (by simp [clear]), List.eraseDups_cons, List.filter_filter]
      rfl
    | some p =>
      rw [if_neg nofun, List.filter_cons_of_neg (by simp [clear]), List.nil_append]
      congr 1
      refine List.filter_congr fun j _ => ?_
      by_cases own : j = o.1
      · simp [own, clear]
      · simp [own]

/-! ### Notices -/

/-- The notice of a source as it stands, when it is pending and unmasked (R183, R184). -/
def State.noticeFor (s : State) (i : SourceIx) : Option Telegram :=
  match (s.source i).pending with
  | some o => if (s.source i).mask = false then some (noticeTelegram i (s.source i).priority o) else none
  | none => none

theorem ConsolePort.freePlaces_send (s : State) (t : Telegram) :
    (s.send t).console.freePlaces = s.console.freePlaces - 1 := by
  show Config.transmitPlaces - (s.console.tx ++ [t]).length - s.console.reserved = _
  simp only [ConsolePort.freePlaces, List.length_append, List.length_singleton]
  omega

/-- The judgement of one source, in the notice that it has (R183). -/
theorem State.judgeNotice_eq (s : State) (i : SourceIx) : s.judgeNotice i = match s.noticeFor i with
    | some m => if s.console.link = .up ∧ 4 ≤ s.console.freePlaces then s.send m else s
    | none => s := by
  unfold State.judgeNotice State.noticeFor
  cases (s.source i).pending with
  | none => rfl
  | some o =>
    by_cases mask : (s.source i).mask = false
    · simp only [mask, if_true, true_and, Config.noticePlaces]
    · simp [mask]

/-- Judged one after another, the sources send their notices while 4 places are free (R183). -/
theorem State.foldl_judgeNotice_eq (is : List SourceIx) : ∀ s : State, is.foldl State.judgeNotice s =
    s.withConsole { s.console with tx := s.console.tx ++
      if s.console.link = .up then (is.filterMap s.noticeFor).take (s.console.freePlaces - 3) else [] } := by
  induction is with
  | nil => intro s; simp [State.withConsole]
  | cons i is ih =>
    intro s
    rw [List.foldl_cons, State.judgeNotice_eq, List.filterMap_cons]
    cases s.noticeFor i with
    | none => exact ih s
    | some m =>
      dsimp only
      by_cases up : s.console.link = .up
      · by_cases places : 4 ≤ s.console.freePlaces
        · obtain ⟨n, free⟩ : ∃ n, s.console.freePlaces = n + 4 := ⟨s.console.freePlaces - 4, by omega⟩
          have sent : (s.send m).noticeFor = s.noticeFor := rfl
          have link : (s.send m).console.link = .up := up
          rw [if_pos ⟨up, places⟩, ih, sent, ConsolePort.freePlaces_send, if_pos link, if_pos up, free]
          simp [State.send, State.withConsole]
        · have none : s.console.freePlaces - 3 = 0 := by omega
          rw [if_neg (by simp [places]), ih, none, List.take_zero, List.take_zero]
      · rw [if_neg (by simp [up]), ih, if_neg up, if_neg up]

/-- The end of an event: with f places free the first f - 3 notices are sent (R183). -/
theorem State.judgeNotices_eq (s : State) : s.judgeNotices = { s with
    attention := { s.attention with due := [] },
    console := { s.console with tx := s.console.tx ++ if s.console.link = .up then
      (s.attention.due.filterMap s.noticeFor).take (s.console.freePlaces - 3) else [] } } := by
  unfold State.judgeNotices
  rw [State.foldl_judgeNotice_eq]
  rfl

/-- The end of an event in which one source became due (R183). -/
theorem State.judgeNotices_one {s : State} {i : SourceIx} (due : s.attention.due = [i]) {o : Occurrence}
    (pending : (s.source i).pending = some o) : s.judgeNotices = { s with
      attention := { s.attention with due := [] },
      console := { s.console with tx := s.console.tx ++
        if (s.source i).mask = false ∧ s.console.link = .up ∧ 4 ≤ s.console.freePlaces then
          [noticeTelegram i (s.source i).priority o] else [] } } := by
  have one : (if s.console.link = .up then (s.attention.due.filterMap s.noticeFor).take (s.console.freePlaces - 3) else []) =
      if (s.source i).mask = false ∧ s.console.link = .up ∧ 4 ≤ s.console.freePlaces then
        [noticeTelegram i (s.source i).priority o] else [] := by
    rw [due]
    by_cases up : s.console.link = .up
    · by_cases mask : (s.source i).mask = false
      · by_cases places : 4 ≤ s.console.freePlaces
        · obtain ⟨n, free⟩ : ∃ n, s.console.freePlaces = n + 4 := ⟨s.console.freePlaces - 4, by omega⟩
          simp [State.noticeFor, pending, mask, up, free]
        · have none : s.console.freePlaces - 3 = 0 := by omega
          simp [none, places]
      · simp [State.noticeFor, pending, mask]
    · simp [up]
  rw [State.judgeNotices_eq, one]

/-! ### Several occurrences of one source -/

theorem State.withSource_twice (s : State) (i : SourceIx) (r r' : SourceRecord) :
    (s.withSource i r).withSource i r' = s.withSource i r' := by
  simp [State.withSource, State.withAttention]

theorem State.withSource_source_self (s : State) (i : SourceIx) (r : SourceRecord) : (s.withSource i r).source i = r := by
  rw [State.withSource_source, if_pos rfl]

theorem State.withSource_self (s : State) (i : SourceIx) : s.withSource i (s.source i) = s := by
  simp [State.withSource, State.withAttention, State.source]

/-- Further occurrences of a pending source merge and make nothing due (R182). -/
theorem State.raiseAll_merged (i : SourceIx) : ∀ (more : List Detail) {s : State} {o : Occurrence},
    (s.source i).pending = some o → o.count ≤ 255 → s.raiseAll (more.map fun d => (i, d)) =
      s.withSource i { s.source i with pending := some { o with count := min 255 (o.count + more.length) } }
  | [], s, o, pending, range => by
    rw [List.length_nil, Nat.add_zero, Nat.min_eq_right range, ← pending]
    exact (s.withSource_self i).symm
  | d :: more, s, o, pending, range => by
    have first : s.raise i d = s.withSource i { s.source i with pending := some { o with count := mergeCount o.count } } := by
      simp only [State.raise, pending]
    have count : min 255 (mergeCount o.count + more.length) = min 255 (o.count + (more.length + 1)) := by
      rw [mergeCount_eq_min range]
      omega
    rw [List.map_cons, State.raiseAll_cons, first, State.raiseAll_merged i more
      (by rw [State.withSource_source_self]) (mergeCount_bounds range).2, State.withSource_source_self,
      State.withSource_twice, count, List.length_cons]

/-- Several occurrences of a clear source in one event (R182, R183). -/
theorem State.raiseAll_latched {s : State} (quiet : s.attention.due = []) {i : SourceIx} (clear : (s.source i).pending = none)
    (d : Detail) (more : List Detail) : s.raiseAll ((i, d) :: more.map fun e => (i, e)) = s.withAttention
      ⟨s.attention.sources.set i { s.source i with pending := some ⟨min 255 (1 + more.length), d⟩ }, [i]⟩ := by
  have first : s.raise i d =
      s.withAttention ⟨s.attention.sources.set i { s.source i with pending := some ⟨1, d⟩ }, [i]⟩ := by
    simp only [State.raise, clear, quiet, List.nil_append]
  have latched : (s.raise i d).source i = { s.source i with pending := some ⟨1, d⟩ } := by
    rw [State.raise_source, if_pos rfl, SourceRecord.after_none clear]
  rw [State.raiseAll_cons, State.raiseAll_merged i more (by rw [latched]) (show 1 ≤ 255 by decide), latched, first]
  simp [State.withSource, State.withAttention]

/-- Settles O33: one source by its latch and its merges, several by their own occurrences, the notices by the judgement
of the sources that are due. -/
theorem occurrencesMerge : Obligations.OccurrencesMerge := by
  refine ⟨fun s i d more quiet => ⟨fun clear => ?_, fun o pending range => ?_⟩,
    fun s raised => ⟨s.raiseAll_eq_withAttention raised, s.raiseAll_due raised, fun i => ⟨fun clear => ?_, fun o pending range => ?_⟩⟩,
    fun s => s.judgeNotices_eq, rfl, rfl, rfl, fun _ _ _ => ⟨rfl, rfl, rfl⟩⟩
  · rw [State.raiseAll_latched quiet clear]
    generalize latched : ({ s.source i with pending := some ⟨min 255 (1 + more.length), d⟩ } : SourceRecord) = r
    have source : (s.withAttention ⟨s.attention.sources.set i r, [i]⟩).source i = r := s.withSource_source_self i r
    refine (State.judgeNotices_one (o := ⟨min 255 (1 + more.length), d⟩) rfl (by rw [source, ← latched])).trans ?_
    rw [source, ← latched]
    rfl
  · refine (congrArg State.judgeNotices (State.raiseAll_merged i (d :: more) pending range)).trans ?_
    rw [State.judgeNotices_of_none_due (by exact quiet), List.length_cons, Nat.add_comm more.length, ← Nat.add_assoc]
    simp only [State.withSource, State.withAttention, quiet]
  · rw [State.raiseAll_source]
    cases (raised.filter fun o => o.1 = i).map Prod.snd with
    | nil => exact clear ▸ rfl
    | cons d more => exact SourceRecord.foldl_after_none clear d more
  · rw [State.raiseAll_source, SourceRecord.foldl_after_some _ pending range]

/-! ### ATTENTION_CONFIG and ATTENTION_POLL (R186 to R188) -/

theorem sourceOf_eq_none {n : Nat} (h : 11 < n) : sourceOf n = none := dif_neg (by omega)

theorem toNat_beq_one (c : Byte) : (c.toNat == 1) = (c == 1) := by
  rw [Bool.eq_iff_iff, beq_iff_eq, beq_iff_eq]
  exact BitVec.toNat_inj (y := (1 : Byte))

theorem byte_ne_one_iff {c : Byte} (h : c.toNat ≤ 1) : ¬ c = 1 ↔ c = 0 := by
  constructor
  · intro other
    have ne : c.toNat ≠ 1 := fun e => other (BitVec.eq_of_toNat_eq e)
    exact BitVec.eq_of_toNat_eq (show c.toNat = 0 by omega)
  · rintro rfl
    decide

theorem flagByte_eq {c : Byte} (h : c.toNat ≤ 1) : flagByte (c == 1) = c := by
  by_cases one : c = 1
  · rw [one]; rfl
  · rw [(byte_ne_one_iff h).1 one]; rfl

/-- The rules of ATTENTION_CONFIG for fields in their ranges (R186, R187). -/
theorem attentionConfigRules_stored (s : State) {a b c : Byte} {i : SourceIx} (hi : i.val = a.toNat) (hb : b.toNat ≤ 7)
    (hc : c.toNat ≤ 1) : attentionConfigRules s [a, b, c] =
      let stored := s.withSource i ⟨b.toNat, c == 1, (s.source i).pending⟩
      { state := if (s.source i).mask && !(c == 1) && (s.source i).pending.isSome then stored.makeDue i else stored,
        result := .ok,
        data := [a, b, c, flagByte (s.source i).pending.isSome, byteOf (s.source i).mergeCount] } := by
  have fields : byteAt [a, b, c] 0 = i.val ∧ byteAt [a, b, c] 1 = b.toNat ∧ byteAt [a, b, c] 2 = c.toNat := ⟨hi.symm, rfl, rfl⟩
  obtain ⟨source, priority, mask⟩ := fields
  have number : byteOf i.val = a := by rw [hi, byteOf_toNat_self]
  simp only [attentionConfigRules, source, priority, mask, sourceOf_val, hb.not_gt, hc.not_gt, if_false, toNat_beq_one,
    flagByte_eq hc, byteOf_toNat_self, number, SourceRecord.configured]

/-- The count of the sources that remain after one has been cleared (R188). -/
theorem State.visibleCount_cleared (s : State) (i : SourceIx) : (s.withSource i (s.source i).cleared).visibleCount =
    (List.finRange 12).countP fun j => j != i && (s.source j).pending.isSome && !(s.source j).mask := by
  have all : allSources = List.finRange 12 := by decide
  rw [State.visibleCount, all]
  refine List.countP_congr fun j _ => ?_
  rw [State.visible, State.withSource_source]
  split
  · rename_i own
    simp [own, SourceRecord.cleared]
  · rename_i other
    simp [other]

/-- An accepted ATTENTION_CONFIG; an unmasked pending source is judged after the REPLY (R186, R187). -/
theorem attentionConfig_accepted {s : State} {t : Telegram} {a b c : Byte} (held : s.holds .attentionConfig t)
    (payload : t.payload = [a, b, c]) {i : SourceIx} (hi : i.val = a.toNat) (hb : b.toNat ≤ 7) (hc : c.toNat ≤ 1)
    {count : Nat} (merged : (s.source i).mergeCount = count) :
    let u := (s.withSource i ⟨b.toNat, c == 1, (s.source i).pending⟩).replied t .ok
      [a, b, c, flagByte (s.source i).pending.isSome, byteOf count]
    exec .attentionConfig s = .next { u with console := { u.console with tx := u.console.tx ++
      match (s.source i).pending with
      | some o => if (s.source i).mask = true ∧ c = 0 ∧ s.console.link = .up ∧ 4 ≤ u.console.freePlaces then
          [noticeTelegram i b.toNat o] else []
      | none => [] } } := by
  intro u
  have rules := attentionConfigRules_stored s hi hb hc
  rw [← payload, merged] at rules
  have run : exec .attentionConfig s = .next (if (s.source i).mask && !(c == 1) && (s.source i).pending.isSome then
      u.makeDue i else u).judgeNotices := by
    refine (event_released held.1.1 _).trans (congrArg Host.Outcome.next (congrArg State.judgeNotices ?_))
    rw [executeHeld_of_holds held, rules]
    dsimp only
    split <;> rfl
  have due : u.attention.due = [] := held.1.2
  rw [run]
  cases pending : (s.source i).pending with
  | none =>
    rw [if_neg (by simp), State.judgeNotices_of_none_due due]
    simp
  | some o =>
    have unmasks : ((s.source i).mask && !(c == 1) && (some o).isSome) = true ↔ (s.source i).mask = true ∧ c = 0 := by
      rw [Option.isSome_some, Bool.and_true, Bool.and_eq_true, Bool.not_eq_true', beq_eq_false_iff_ne, Ne,
        byte_ne_one_iff hc]
    by_cases asked : (s.source i).mask = true ∧ c = 0
    · rw [if_pos (unmasks.2 asked)]
      have stored : (u.makeDue i).source i = ⟨b.toNat, c == 1, some o⟩ := by
        rw [← pending]
        exact State.withSource_source_self _ _ _
      have unmasked : (c == 1) = false := by rw [asked.2]; rfl
      rw [State.judgeNotices_one (s := u.makeDue i) (o := o) (by rw [State.makeDue, State.withAttention_attention, due]; rfl)
        (by rw [stored]), stored]
      have places : ((c == 1) = false ∧ (u.makeDue i).console.link = .up ∧ 4 ≤ (u.makeDue i).console.freePlaces) ↔
          ((s.source i).mask = true ∧ c = 0 ∧ s.console.link = .up ∧ 4 ≤ u.console.freePlaces) :=
        ⟨fun h => ⟨asked.1, asked.2, h.2⟩, fun h => ⟨unmasked, h.2.2⟩⟩
      have attention : (⟨u.attention.sources, []⟩ : Attention) = u.attention := by rw [← due]
      rw [if_congr places rfl rfl]
      exact congrArg Host.Outcome.next (State.eq_of_blocks rfl rfl rfl rfl rfl rfl rfl rfl rfl attention rfl)
    · rw [if_neg (unmasks.not.2 asked), State.judgeNotices_of_none_due due]
      have none : ¬ ((s.source i).mask = true ∧ c = 0 ∧ s.console.link = .up ∧ 4 ≤ u.console.freePlaces) :=
        fun h => asked ⟨h.1, h.2.1⟩
      dsimp only
      rw [if_neg none, List.append_nil]

/-- An ATTENTION_POLL with a source selected (R188). -/
theorem attentionPollRules_selected {s : State} {i : SourceIx} {o : Occurrence} (selected : s.selectSource = some i)
    (pending : (s.source i).pending = some o) (p : List Byte) : attentionPollRules s p =
      { state := s.withSource i (s.source i).cleared, result := .ok,
        data := byteOf i.val :: byteOf (s.source i).priority :: (detailBytes o.detail ++
          [byteOf o.count, byteOf (s.withSource i (s.source i).cleared).visibleCount]) } := by
  simp only [attentionPollRules, selected, pending, noticeFields, List.cons_append, List.append_assoc, List.nil_append]

theorem SourceRecord.mergeCount_eq (r : SourceRecord) :
    r.mergeCount = match r.pending with
      | some o => o.count
      | none => 0 := by
  unfold SourceRecord.mergeCount
  cases r.pending <;> rfl

/-- Settles O34: the refusals in their order, the stored record and its notice, and the poll by the selection. -/
theorem attentionCommandsExecuted : Obligations.AttentionCommandsExecuted := by
  refine ⟨fun s t a b c held payload => ⟨fun noSource => ?_, fun source above => ?_, fun source priority above => ?_,
    fun i hi hb hc => attentionConfig_accepted held payload hi hb hc (SourceRecord.mergeCount_eq _)⟩,
    fun s t held => ⟨fun none => ?_, fun i o selected pending => ?_⟩⟩
  · refine management_refused held (rules := attentionConfigRules) ?_
    rw [payload, attentionConfigRules, show byteAt [a, b, c] 0 = a.toNat from rfl, sourceOf_eq_none noSource]
  · refine management_refused held (rules := attentionConfigRules) ?_
    have known : sourceOf (byteAt [a, b, c] 0) = some ⟨a.toNat, by omega⟩ := dif_pos _
    have out : 7 < byteAt [a, b, c] 1 := above
    simp only [payload, attentionConfigRules, known, out, if_true]
  · refine management_refused held (rules := attentionConfigRules) ?_
    have known : sourceOf (byteAt [a, b, c] 0) = some ⟨a.toNat, by omega⟩ := dif_pos _
    have inside : ¬ 7 < byteAt [a, b, c] 1 := priority.not_gt
    have out : 1 < byteAt [a, b, c] 2 := above
    simp only [payload, attentionConfigRules, known, inside, out, if_true, if_false]
  · exact management_quiet held (rules := attentionPollRules) (a := ⟨s, .ok, [0xFF, 0, 0xFF, 0, 0, 0, 0]⟩)
      (by simp only [attentionPollRules, none]) held.1.2
  · refine (management_quiet held (attentionPollRules_selected selected pending t.payload) held.1.2).trans ?_
    rw [State.visibleCount_cleared]
    rfl

end Sys2Proof.Machine
end

section
/-! PROOFS. The press: SWEEP_CONFIG, PRESS_STATE, MODE and HOLD (R142, R147, R148, R165 to R177). -/

namespace Sys2Proof.Machine

/-! ### SWEEP_CONFIG and PRESS_STATE -/

@[simp] theorem Poller.configured_source (p : Poller) (source : SweepSource) (interval divider : Nat) :
    (p.configured source interval divider).source = source := by
  unfold Poller.configured
  split <;> simp_all

/-- The rules of SWEEP_CONFIG for a Source of R147. -/
theorem sweepConfigRules_accepted (s : State) (source : SweepSource) {carried : Nat} (range : carried < 65536)
    (divider : Byte) : sweepConfigRules s (sweepSourceCode source :: be16 carried ++ [divider]) =
      let interval := max 20 (min 2000 carried)
      let div := max 1 (min 64 divider.toNat)
      { state := s.withPoller (s.poller.configured source interval div),
        result := if interval = carried ∧ div = divider.toNat then .ok else .clamped,
        data := sweepConfigData (s.poller.configured source interval div) } := by
  have code : sweepSourceOf (byteAt (sweepSourceCode source :: be16 carried ++ [divider]) 0) = some source := by
    cases source <;> rfl
  have asked : u16At (sweepSourceCode source :: be16 carried ++ [divider]) 1 = carried := u16_be16 range
  have last : byteAt (sweepSourceCode source :: be16 carried ++ [divider]) 3 = divider.toNat := rfl
  simp only [sweepConfigRules, code, asked, last, clampNat_eq_max_min (show 20 ≤ 2000 by decide),
    clampNat_eq_max_min (show 1 ≤ 64 by decide), Result.ofClamped_pair]

theorem sweepSourceCode_cases {source : Byte} (h : source.toNat ≤ 1) : ∃ x, source = sweepSourceCode x := by
  by_cases one : source = 1
  · exact ⟨.sheet, one⟩
  · exact ⟨.timer, (byte_ne_one_iff h).1 one⟩

theorem pressOf_code (new : PressState) : pressOf (pressCode new).toNat = some new := by cases new <;> rfl

/-- Settles O30: SWEEP_CONFIG by the Source in force and the one asked for, PRESS_STATE by its byte. -/
theorem sweepAndPressConfigured : Obligations.SweepAndPressConfigured := by
  refine ⟨fun s t source divider carried held range payload => ⟨fun above => ?_, fun inside => ?_⟩,
    fun s t b held payload => ⟨fun above => ?_, fun new code => ?_⟩⟩
  · refine management_refused held (rules := sweepConfigRules) ?_
    have none : sweepSourceOf (byteAt t.payload 0) = none := by
      rw [payload]
      show sweepSourceOf source.toNat = _
      unfold sweepSourceOf
      split
      · omega
      · omega
      · rfl
    simp only [sweepConfigRules, none]
  · obtain ⟨x, rfl⟩ := sweepSourceCode_cases inside
    have rules := sweepConfigRules_accepted s x range divider
    rw [← payload] at rules
    refine (management_quiet held rules held.1.2).trans ?_
    dsimp only [sweepConfigData]
    rw [Poller.configured_source]
    cases x <;> cases was : s.poller.source <;> simp only [Poller.configured, was] <;> rfl
  · refine management_refused held (rules := pressStateRules) ?_
    have none : pressOf (byteAt t.payload 0) = none := by
      rw [payload]
      show pressOf b.toNat = _
      unfold pressOf
      split
      · omega
      · omega
      · omega
      · rfl
    simp only [pressStateRules, none]
  · have known : pressOf (byteAt t.payload 0) = some new := by
      rw [payload, ← code]
      exact pressOf_code new
    refine (management_quiet held (rules := pressStateRules)
      (a := ⟨s.withPress { s.press with state := new }, .ok, [pressCode s.press.state, pressCode new]⟩)
      (by simp only [pressStateRules, known]) held.1.2).trans ?_
    rw [code]
    rfl

/-! ### MODE (R173 to R177) -/

/-- No tower with keys is READY after the entry into PASSTHROUGH (R29, R174). -/
theorem Tower.passthrough_not_ready {w : Tower} (keys : w.keys ≠ []) : w.passthrough.derivedPhase ≠ .ready := by
  intro ready
  obtain ⟨k, rest, is⟩ := List.exists_cons_of_ne_nil keys
  have settled := (Tower.derivedPhase_ready ready).2.2 k.enterPassthrough
    (List.mem_map_of_mem (is ▸ List.mem_cons_self))
  unfold Key.enterPassthrough at settled
  split at settled
  · rename_i stays
    rw [settled] at stays
    exact stays.elim nofun nofun
  · cases settled

/-- The entry into PASSTHROUGH: every enabled tower, with no TOWER_READY, and the round abandoned (R153, R174). -/
theorem State.enterPassthrough_eq {s : State} (keys : ∀ i, (s.tower i).setup.enabled = true → (s.tower i).keys ≠ []) :
    s.enterPassthrough = ((s.withTowers (s.reworked (fun w => w.setup.enabled) (fun s i => (s.tower i).passthrough)
      allTowers)).withPress { s.press with mode := .passthrough }).withPoller s.poller.withoutRound := by
  have swept := State.passthroughTower_reworks.foldl allTowers allTowers_nodup
    (s.withPress { s.press with mode := .passthrough })
  have silent : readyOccurrences s.tower (s.reworked (fun w => w.setup.enabled) (fun s i => (s.tower i).passthrough)
      allTowers) allTowers = [] := by
    refine (List.map_eq_nil_iff).2 (List.filter_eq_nil_iff.2 fun i _ => ?_)
    rw [decide_eq_true_eq]
    rintro ⟨after, before⟩
    unfold State.reworked at after
    split at after
    · rename_i on
      exact Tower.passthrough_not_ready (keys i on.2) after
    · exact before after
  unfold State.enterPassthrough State.abandonRound
  have unsaid := swept.trans (congrArg (State.raiseAll _) silent)
  rw [unsaid]
  rfl

/-- A trigger in NORMAL with no round active starts one (R151). -/
theorem State.trigger_starts {s : State} (normal : s.press.mode = .normal) (idle : s.poller.roundActive = false) :
    s.trigger = s.startRound := by
  unfold State.trigger
  rw [normal]
  exact if_neg (by simp [idle])

theorem modeOf_code (mode : Mode) : modeOf (modeCode mode).toNat = some mode := by cases mode <;> rfl

theorem modeRules_of_code (s : State) (mode : Mode) :
    modeRules s [modeCode mode] = { state := s.changeMode mode, result := .ok, data := [modeCode mode] } := by
  have known : modeOf (byteAt [modeCode mode] 0) = some mode := modeOf_code mode
  simp only [modeRules, known]

/-- Settles O31. -/
theorem modeExecuted : Obligations.ModeExecuted := by
  intro s t b held payload
  have accepted {mode : Mode} (code : modeCode mode = b) {u : State} (change : s.changeMode mode = u)
      (quiet : u.attention.due = []) : exec .mode s = .next (u.replied t .ok [b]) := by
    have rules : modeRules s t.payload = { state := u, result := .ok, data := [b] } := by
      rw [payload, ← code, modeRules_of_code, change]
    exact management_quiet held rules quiet
  refine ⟨fun above => ?_, fun same => ?_, fun enter normal keys => ?_, fun leave passthrough idle => ?_⟩
  · refine management_refused held (rules := modeRules) ?_
    have none : modeOf (byteAt t.payload 0) = none := by
      rw [payload]
      show modeOf b.toNat = _
      unfold modeOf
      split
      · omega
      · omega
      · rfl
    simp only [modeRules, none]
  · refine accepted same ?_ held.1.2
    unfold State.changeMode
    cases s.press.mode <;> rfl
  · have change : s.changeMode .passthrough = s.enterPassthrough := by
      unfold State.changeMode
      rw [normal]
    have entered := State.enterPassthrough_eq keys
    have tower (i : TowerIx) : s.enterPassthrough.tower i =
        s.reworked (fun w => w.setup.enabled) (fun s i => (s.tower i).passthrough) allTowers i := by
      rw [entered, State.withPoller_tower, State.withPress_tower, State.withTowers_tower]
    have bare : s.enterPassthrough.bare =
        ((s.withPress { s.press with mode := .passthrough }).withPoller s.poller.withoutRound).bare := by
      rw [entered]
      rfl
    have attention : s.enterPassthrough.attention = s.attention := by
      rw [entered]
      rfl
    generalize s.enterPassthrough = u at *
    obtain ⟨nreset, console, handler, curves, sheets, drive, poller, press, pending⟩ := State.bare_eq_iff.1 bare
    have kind : t.kind = 0x49 := held.2.2.1
    refine ⟨_, accepted (mode := .passthrough) enter.symm change (by rw [attention]; exact held.1.2), press, fun i off => ?_,
      fun i on => ?_, poller, ?_, ?_⟩
    · exact (tower i).trans (if_neg (by simp [off]))
    · exact (tower i).trans (if_pos ⟨mem_allTowers i, on⟩)
    · simp only [State.replied, State.answered, console, enter, kind]
      rfl
    · simp only [State.replied, State.answered, nreset, handler, curves, sheets, drive, attention, pending]
      rfl
  · have change : s.changeMode .normal = (s.withPress { s.press with mode := .normal }).startRound := by
      unfold State.changeMode
      rw [passthrough]
      exact State.trigger_starts (s := s.withPress { s.press with mode := .normal }) rfl idle
    exact accepted (mode := .normal) leave.symm change held.1.2

/-! ### HOLD (R142, R168, R170) -/

/-- The REPLYs for purged telegrams, as many as places are free (R142). -/
theorem State.foldl_purgeReply_eq (ts : List Telegram) : ∀ s : State, ts.foldl State.purgeReply s =
    s.withConsole { s.console with
      tx := s.console.tx ++ (ts.map (forwardRefusal .holdActive)).take s.console.freePlaces } := by
  induction ts with
  | nil => intro s; simp [State.withConsole]
  | cons t ts ih =>
    intro s
    rw [List.foldl_cons, ih]
    unfold State.purgeReply
    split
    · rename_i place
      obtain ⟨n, free⟩ : ∃ n, s.console.freePlaces = n + 1 := ⟨s.console.freePlaces - 1, by omega⟩
      rw [ConsolePort.freePlaces_send, free]
      simp [State.send, State.withConsole]
    · rename_i full
      have none : s.console.freePlaces = 0 := by omega
      simp [none]

/-- An assertion of HOLD before its notice (R142, R168). -/
theorem State.holdAsserted_eq {s : State} (hold : s.press.hold = .released) : s.holdAsserted =
    State.raise { s with
      press := { s.press with hold := .asserted },
      drive := { s.drive with haltPending := true, forward := s.drive.forward.filter fun t => t.kind != 0x90 },
      console := { s.console with tx := s.console.tx ++ ((s.drive.forward.filter fun t => t.kind == 0x90).map
        fun t => makeTelegram 0x01 0x08 0x80 [0x90, 0x33, t.dest]).take s.console.freePlaces } }
      srcHoldChange (.level .asserted) := by
  have refusals : (s.drive.forward.filter fun t => t.kind == 0x90).map (forwardRefusal .holdActive) =
      (s.drive.forward.filter fun t => t.kind == 0x90).map fun t => makeTelegram 0x01 0x08 0x80 [0x90, 0x33, t.dest] := by
    refine List.map_congr_left fun t mem => ?_
    have kind : t.kind = 0x90 := eq_of_beq (List.mem_filter.1 mem).2
    unfold forwardRefusal
    rw [kind]
    rfl
  rw [← refusals]
  simp only [State.holdAsserted, hold, State.purgeMoves, State.foldl_purgeReply_eq]
  rfl

/-- Settles O32. -/
theorem holdFollowed : Obligations.HoldFollowed := by
  refine fun s ready => ⟨fun released => ?_, fun asserted => ?_, fun asserted => ?_, fun released => ?_⟩
  · refine (event_released ready.1 _).trans (congrArg Host.Outcome.next ?_)
    rw [State.holdAsserted_eq released]
    exact State.raise_judgeNotices (by exact ready.2) _ _
  · exact event_unchanged ready (by simp only [State.holdAsserted, asserted])
  · have change : s.holdReleased = (s.withPress { s.press with hold := .released }).raise srcHoldChange (.level .released) := by
      simp only [State.holdReleased, asserted]
    refine (event_released ready.1 _).trans (congrArg Host.Outcome.next ?_)
    rw [change]
    exact State.raise_judgeNotices (by exact ready.2) _ _
  · exact event_unchanged ready (by simp only [State.holdReleased, released])

end Sys2Proof.Machine
end

section
/-! PROOFS. Queries (section 10.5): the flags, fields and entries of a snapshot read back, and the answers of the seven
targets. -/

namespace Sys2Proof.Machine

/-! ### Flags -/

theorem bitsOf_cons (b : Bool) (bs : List Bool) : bitsOf (b :: bs) = Nat.bit b (bitsOf bs) := by
  cases b
  · simp [bitsOf, Nat.bit]
  · simp only [bitsOf, Nat.bit, cond_true, if_true]
    omega

/-- Bit n of a number that flags give is flag n. -/
theorem bitsOf_testBit : ∀ (bs : List Bool) (n : Nat), (bitsOf bs).testBit n = bs.getD n false
  | [], n => by simp [bitsOf]
  | b :: bs, 0 => by simp [bitsOf_cons]
  | b :: bs, n + 1 => by simp [bitsOf_cons, Nat.testBit_bit_succ, bitsOf_testBit bs n]

theorem bitsOf_lt : ∀ bs : List Bool, bitsOf bs < 2 ^ bs.length
  | [] => by decide
  | b :: bs => by
    have rest := bitsOf_lt bs
    rw [List.length_cons, Nat.pow_succ]
    unfold bitsOf
    split <;> omega

theorem bitsOf_pair (a b : Bool) : bitsOf [a, b] = (if a then 1 else 0) + if b then 2 else 0 := by
  cases a <;> cases b <;> rfl

/-- Flags sent in one byte are read back. -/
theorem byteOf_bitsOf_testBit {bs : List Bool} (short : bs.length ≤ 8) (n : Nat) :
    (byteOf (bitsOf bs)).toNat.testBit n = bs.getD n false := by
  have small : bitsOf bs < 256 := (bitsOf_lt bs).trans_le (Nat.pow_le_pow_right (by decide) short)
  rw [byteOf_toNat, Nat.mod_eq_of_lt small, bitsOf_testBit]

theorem u16_bitsOf_testBit {bs : List Bool} (short : bs.length ≤ 16) (n : Nat) :
    (u16 (byteOf (bitsOf bs / 256)) (byteOf (bitsOf bs))).testBit n = bs.getD n false := by
  have small : bitsOf bs < 65536 := (bitsOf_lt bs).trans_le (Nat.pow_le_pow_right (by decide) short)
  rw [u16_be16 small, bitsOf_testBit]

theorem map_allSources_getD (f : SourceIx → Bool) (i : SourceIx) : (allSources.map f).getD i.val false = f i := by
  fin_cases i <;> rfl

theorem map_allTowers_getD (f : TowerIx → Bool) (i : TowerIx) (low : i.val < 8) :
    ((allTowers.take 8).map f).getD i.val false = f i := by
  have all : (allTowers.map f).getD i.val false = f i := by fin_cases i <;> rfl
  rw [← all, List.map_take, List.getD_eq_getElem?_getD, List.getElem?_take, if_pos low, ← List.getD_eq_getElem?_getD]

/-! ### Fields by their offset -/

theorem byteAt_drop (p : List Byte) (n i : Nat) : byteAt p (n + i) = byteAt (p.drop n) i := by
  simp [byteAt, List.getD_eq_getElem?_getD]

theorem u16At_drop (p : List Byte) (n i : Nat) : u16At p (n + i) = u16At (p.drop n) i := by
  simp [u16At, List.getD_eq_getElem?_getD, Nat.add_assoc]

/-- The m-th entry of a run of entries of one length. -/
theorem flatMap_entry {α : Type} {f : α → List Byte} {n : Nat} (len : ∀ a, (f a).length = n) :
    ∀ (l : List α) (m : Nat) {a : α}, l[m]? = some a → ((l.flatMap f).drop (n * m)).take n = f a
  | [], m, a, h => by simp at h
  | b :: l, 0, a, h => by
    obtain rfl : b = a := by simpa using h
    rw [Nat.mul_zero, List.drop_zero, List.flatMap_cons, ← len b, List.take_left]
  | b :: l, m + 1, a, h => by
    have next : n * (m + 1) = (f b).length + n * m := by rw [len, Nat.mul_succ, Nat.add_comm]
    rw [next, List.flatMap_cons, List.drop_length_add_append]
    exact flatMap_entry len l m (by simpa using h)

theorem flatMap_length_const {α : Type} {f : α → List Byte} {n : Nat} (len : ∀ a, (f a).length = n) (l : List α) :
    (l.flatMap f).length = n * l.length := by
  induction l with
  | nil => rfl
  | cons a l ih => rw [List.flatMap_cons, List.length_append, len, ih, List.length_cons, Nat.mul_succ, Nat.add_comm]

/-! ### Answers -/

/-- A QUERY is answered with its snapshot (R191). -/
theorem Asks.answered {c : Instr} {x : Target} {snapshot : State → List Byte → Snapshot} (a : Asks c x snapshot) {s : State}
    {t : Telegram} (held : s.holds .query t) (target : t.payload.head? = some x.code) (len : t.payload.length = x.length)
    {data : List Byte} (shown : snapshot s t.payload = .ok data) : exec c s = .next (s.answered 0x81 t .ok data) := by
  rw [a.exec_eq, query_of_hand held.1 held.2.1 held.2.2.1 target len, shown]

/-- A QUERY is refused by its target's own checks (R191). -/
theorem Asks.refused {c : Instr} {x : Target} {snapshot : State → List Byte → Snapshot} (a : Asks c x snapshot) {s : State}
    {t : Telegram} (held : s.holds .query t) (target : t.payload.head? = some x.code) (len : t.payload.length = x.length)
    {r : Result} (shown : snapshot s t.payload = .error r) : exec c s = .next (s.answered 0x81 t r []) := by
  rw [a.exec_eq, query_of_hand held.1 held.2.1 held.2.2.1 target len, shown]

/-! ### DEVICE (R192) -/

/-- The fields of DEVICE before the rotation order. -/
def State.deviceHead (s : State) : List Byte :=
  be16 Config.partCode ++
    [byteOf Config.revision, pressCode s.press.state, modeCode s.press.mode, holdCode s.press.hold,
      flagByte s.drive.haltPending, linkCode s.console.link] ++
    be32 s.sheetCount.toNat ++ [sweepSourceCode s.poller.source] ++ be16 s.poller.interval ++
    [flagByte s.poller.intervalPending.isSome] ++ be16 (s.poller.intervalPending.getD 0) ++
    [byteOf s.poller.divider] ++ be16 s.poller.roundNumber ++
    [byteOf (bitsOf [s.poller.roundActive, s.poller.roundPending]), turnCode s.drive.turn]

/-- The fields of DEVICE after the rotation order. -/
def State.deviceTail (s : State) : List Byte :=
  be16 (bitsOf (allSources.map fun i => (s.source i).pending.isSome)) ++
    be16 (bitsOf (allSources.map fun i => (s.source i).mask)) ++
    priorityBytes (allSources.map fun i => (s.source i).priority) ++
    [byteOf (bitsOf ((allTowers.take 8).map fun t => (s.tower t).setup.enabled))]

theorem deviceSnapshot_eq (s : State) (p : List Byte) : deviceSnapshot s p =
    .ok (s.deviceHead ++ (s.drive.rotation.map (fun i => byteOf i.val) ++ s.deviceTail)) := by
  simp only [deviceSnapshot, State.deviceHead, State.deviceTail, List.append_assoc]

theorem State.deviceHead_length (s : State) : s.deviceHead.length = 23 := rfl

theorem State.deviceTail_length (s : State) : s.deviceTail.length = 11 := rfl

/-- The priorities of DEVICE, two sources a byte (R192). -/
theorem State.deviceTail_priority (s : State) (range : ∀ i, (s.source i).priority ≤ 7) (j : Fin 6) :
    byteAt s.deviceTail (4 + j.val) =
      16 * (s.source ⟨2 * j.val, by omega⟩).priority + (s.source ⟨2 * j.val + 1, by omega⟩).priority := by
  have pair (i k : SourceIx) : (byteOf ((s.source i).priority * 16 + (s.source k).priority)).toNat =
      16 * (s.source i).priority + (s.source k).priority := by
    have hi := range i
    have hk := range k
    rw [byteOf_toNat]
    omega
  fin_cases j <;> exact pair _ _

/-! ### COUNTERS (R198) -/

theorem mapBytes_length : ∀ bs : List Bool, (mapBytes bs).length = bs.length / 8
  | a :: b :: c :: d :: e :: f :: g :: h :: bs => by
    rw [mapBytes, List.length_cons, mapBytes_length bs]
    simp only [List.length_cons]
    omega
  | [] | [_] | [_, _] | [_, _, _] | [_, _, _, _] | [_, _, _, _, _] | [_, _, _, _, _, _] | [_, _, _, _, _, _, _] => by
    simp [mapBytes]

/-- Flag number 8 n + m is bit m of byte n. -/
theorem mapBytes_testBit : ∀ (bs : List Bool) (n m : Nat), m < 8 → n < bs.length / 8 →
    (byteAt (mapBytes bs) n).testBit m = bs.getD (8 * n + m) false
  | a :: b :: c :: d :: e :: f :: g :: h :: bs, 0, m, bit, inside => by
    have first : byteAt (mapBytes (a :: b :: c :: d :: e :: f :: g :: h :: bs)) 0 =
      (byteOf (bitsOf [a, b, c, d, e, f, g, h])).toNat := rfl
    rw [first, byteOf_bitsOf_testBit (by simp), Nat.mul_zero, Nat.zero_add]
    interval_cases m <;> rfl
  | a :: b :: c :: d :: e :: f :: g :: h :: bs, n + 1, m, bit, inside => by
    have rest := mapBytes_testBit bs n m bit (by simp only [List.length_cons] at inside; omega)
    have next : 8 * (n + 1) + m = (8 * n + m) + 8 := by omega
    rw [next]
    exact rest
  | [], n, m, _, inside | [_], n, m, _, inside | [_, _], n, m, _, inside | [_, _, _], n, m, _, inside
  | [_, _, _, _], n, m, _, inside | [_, _, _, _, _], n, m, _, inside | [_, _, _, _, _, _], n, m, _, inside
  | [_, _, _, _, _, _, _], n, m, _, inside => by simp at inside

/-- The record at node 0x20 + 4 i + g is that of group g of tower i (R198). -/
theorem State.nodeRecords_getElem? (s : State) (i : TowerIx) (g : GroupIx) :
    s.nodeRecords[4 * i.val + g.val]? = some ((s.tower i).group? g) := by
  fin_cases i <;> fin_cases g <;> rfl

theorem State.nodeRecords_length (s : State) : s.nodeRecords.length = 48 := rfl

/-- The Timeouts of a node, 0 where there is no record (R198). -/
def recordTimeouts (r : Option Group) : List Byte := be16 ((r.map Group.timeouts).getD 0)

/-- The fields of COUNTERS after the Console Port's counters. -/
def State.nodeBytes (s : State) : List Byte :=
  mapBytes (s.nodeRecords.map Option.isSome) ++ s.nodeRecords.flatMap recordTimeouts

theorem countersSnapshot_eq (s : State) (p : List Byte) : countersSnapshot s p =
    .ok (be16 s.console.checkErrors ++ be16 s.console.overruns ++ be16 s.console.noRouteCount ++ s.nodeBytes) := by
  simp only [countersSnapshot, State.nodeBytes, List.append_assoc]
  rfl

theorem State.nodeMap_length (s : State) : (mapBytes (s.nodeRecords.map Option.isSome)).length = 6 := by
  rw [mapBytes_length, List.length_map, State.nodeRecords_length]

theorem State.nodeBytes_present (s : State) (i : TowerIx) (g : GroupIx) :
    (byteAt s.nodeBytes ((4 * i.val + g.val) / 8)).testBit ((4 * i.val + g.val) % 8) = ((s.tower i).group? g).isSome := by
  have inside : (4 * i.val + g.val) / 8 < 6 := by omega
  have inMap : byteAt s.nodeBytes ((4 * i.val + g.val) / 8) =
      byteAt (mapBytes (s.nodeRecords.map Option.isSome)) ((4 * i.val + g.val) / 8) := by
    unfold byteAt State.nodeBytes
    rw [List.getD_append _ _ _ _ (by rwa [State.nodeMap_length])]
  rw [inMap, mapBytes_testBit _ _ _ (Nat.mod_lt _ (by decide))
    (by rwa [List.length_map, State.nodeRecords_length]), Nat.div_add_mod, List.getD_eq_getElem?_getD, List.getElem?_map,
    State.nodeRecords_getElem?]
  rfl

theorem State.nodeBytes_timeouts (s : State) (i : TowerIx) (g : GroupIx) :
    ((s.nodeBytes.drop 6).drop (2 * (4 * i.val + g.val))).take 2 =
      be16 (match (s.tower i).group? g with | some r => r.timeouts | none => 0) := by
  rw [State.nodeBytes, List.drop_left' s.nodeMap_length,
    flatMap_entry (f := recordTimeouts) (fun _ => rfl) _ _ (s.nodeRecords_getElem? i g)]
  cases (s.tower i).group? g <;> rfl

/-- Settles O35: each snapshot by its fields. -/
theorem partQueriesAnswered : Obligations.PartQueriesAnswered := by
  refine fun s t held => ⟨fun payload => ?_, fun c payload => ⟨fun above => ?_, fun i hi => ⟨fun empty => ?_, fun k loaded => ?_⟩⟩,
    fun payload => ?_⟩
  · refine ⟨_, Asks.device.answered held (by rw [payload]; rfl) (by rw [payload]; rfl) (deviceSnapshot_eq s _),
      fun len => by simp [State.deviceHead_length, State.deviceTail_length, len], rfl, rfl, rfl, rfl, ?_, fun len => ?_⟩
    · show be16 s.poller.roundNumber ++ [byteOf (bitsOf [s.poller.roundActive, s.poller.roundPending]), turnCode s.drive.turn] = _
      rw [bitsOf_pair]
    · have order : (s.drive.rotation.map fun i => byteOf i.val).length = 12 := by rw [List.length_map, len]
      have at23 : (s.deviceHead ++ (s.drive.rotation.map (fun i => byteOf i.val) ++ s.deviceTail)).drop 23 =
          s.drive.rotation.map (fun i => byteOf i.val) ++ s.deviceTail := rfl
      have at35 : (s.deviceHead ++ (s.drive.rotation.map (fun i => byteOf i.val) ++ s.deviceTail)).drop 35 = s.deviceTail := by
        rw [show 35 = 23 + 12 from rfl, ← List.drop_drop, at23, List.drop_left' order]
      refine ⟨by rw [at23, List.take_left' order], fun i => ⟨?_, ?_⟩, fun j range => ?_, fun j low => ?_⟩
      · rw [u16At_drop _ 35 0, at35]
        exact (u16_bitsOf_testBit (bs := allSources.map _) (show 12 ≤ 16 by decide) i.val).trans (map_allSources_getD _ i)
      · rw [u16At_drop _ 35 2, at35]
        exact (u16_bitsOf_testBit (bs := allSources.map _) (show 12 ≤ 16 by decide) i.val).trans (map_allSources_getD _ i)
      · rw [show 39 + j.val = 35 + (4 + j.val) by omega, byteAt_drop, at35]
        exact s.deviceTail_priority range j
      · rw [byteAt_drop _ 35 10, at35]
        exact (byteOf_bitsOf_testBit (bs := (allTowers.take 8).map _) (show 8 ≤ 8 by decide) j.val).trans (map_allTowers_getD _ j low)
  · refine Asks.curve.refused held (by rw [payload]; rfl) (by rw [payload]; rfl) ?_
    have none : curveOf (byteAt t.payload 1) = none := by
      rw [payload]
      exact dif_neg (show ¬ c.toNat < 16 by omega)
    simp only [curveSnapshot, none]
  · refine Asks.curve.answered held (by rw [payload]; rfl) (by rw [payload]; rfl) ?_
    have known : curveOf (byteAt t.payload 1) = some i := by
      rw [payload]
      exact (congrArg curveOf hi.symm).trans (curveOf_val i)
    have number : byteOf i.val = c := by rw [hi, byteOf_toNat_self]
    simp only [curveSnapshot, known, empty, number]
  · refine Asks.curve.answered held (by rw [payload]; rfl) (by rw [payload]; rfl) ?_
    have known : curveOf (byteAt t.payload 1) = some i := by
      rw [payload]
      exact (congrArg curveOf hi.symm).trans (curveOf_val i)
    have number : byteOf i.val = c := by rw [hi, byteOf_toNat_self]
    simp only [curveSnapshot, known, loaded, number]
  · refine ⟨_, Asks.counters.answered held (by rw [payload]; rfl) (by rw [payload]; rfl) (countersSnapshot_eq s _), ?_, rfl,
      fun i g => ⟨?_, ?_⟩⟩
    · simp [State.nodeBytes, mapBytes_length, State.nodeRecords_length, be16,
        flatMap_length_const (f := recordTimeouts) (n := 2) fun _ => rfl]
    · rw [byteAt_drop]
      exact s.nodeBytes_present i g
    · rw [← List.drop_drop]
      exact s.nodeBytes_timeouts i g

end Sys2Proof.Machine
end

section
/-! PROOFS. Queries of TOWER, KEYS, GROUPS and PROFILE (R193 to R196). -/

namespace Sys2Proof.Machine

theorem byte_eq_zero_iff {b : Byte} : b = 0 ↔ b.toNat = 0 := (BitVec.toNat_inj (y := (0 : Byte))).symm

theorem byteOf_of_val {i : TowerIx} {b : Byte} (h : i.val = b.toNat) : byteOf i.val = b := by
  rw [h, byteOf_toNat_self]

/-! ### KEYS (R194) -/

theorem keyEntry_length (k : Key) : (keyEntry k).length = 22 := rfl

theorem keyEntry_flags (k : Key) : (byteAt (keyEntry k) 0).testBit 0 = k.computed.isSome ∧
    (byteAt (keyEntry k) 0).testBit 1 = k.sentTarget.isSome ∧
    (byteAt (keyEntry k) 0).testBit 2 = k.lastReported.isSome ∧
    (byteAt (keyEntry k) 0).testBit 3 = k.settledAt.isSome := by
  have flags (n : Nat) : (byteAt (keyEntry k) 0).testBit n =
      [k.computed.isSome, k.sentTarget.isSome, k.lastReported.isSome, k.settledAt.isSome].getD n false :=
    byteOf_bitsOf_testBit
      (bs := [k.computed.isSome, k.sentTarget.isSome, k.lastReported.isSome, k.settledAt.isSome]) (by simp) n
  exact ⟨flags 0, flags 1, flags 2, flags 3⟩

theorem keyEntry_computed {k : Key} {c : Computed} (present : k.computed = some c) :
    ((keyEntry k).drop 3).take 7 =
      be16 c.coverage ++ be16 c.curveOpening ++ be16 c.target ++ [saturationCode c.saturation] := by
  simp only [keyEntry, present, Option.getD_some]
  rfl

theorem keyEntry_absent {k : Key} (absent : k.computed = none) :
    ((keyEntry k).drop 3).take 7 = [0, 0, 0, 0, 0, 0, 0] := by
  simp only [keyEntry, absent, Option.getD_none]
  rfl

theorem keyEntry_settledAt (k : Key) :
    (keyEntry k).drop 18 = be32 (match k.settledAt with | some n => n.toNat | none => 0) := by
  have last : (keyEntry k).drop 18 = be32 ((k.settledAt.map BitVec.toNat).getD 0) := rfl
  rw [last]
  cases k.settledAt <;> rfl

/-- A run of at most five keys of a tower that has them (R194). -/
theorem keysSnapshot_shown {s : State} {b first count : Byte} {i : TowerIx} (hi : i.val = b.toNat)
    (enabled : (s.tower i).setup.enabled = true) (some_keys : count ≠ 0) (few : count.toNat ≤ 5) (one : first ≠ 0)
    (inside : first.toNat + count.toNat - 1 ≤ (s.tower i).setup.keyCount) :
    keysSnapshot s [0x02, b, first, count] = .ok (b :: first :: count ::
      (((s.tower i).keys.drop (first.toNat - 1)).take count.toNat).flatMap keyEntry) := by
  have tower : towerOf (byteAt [0x02, b, first, count] 1) = some i := towerOf_eq_some hi
  have field2 : byteAt [0x02, b, first, count] 2 = first.toNat := rfl
  have field3 : byteAt [0x02, b, first, count] 3 = count.toNat := rfl
  have counted : ¬ (count.toNat = 0 ∨ 5 < count.toNat) := fun h => h.elim (some_keys ∘ byte_eq_zero_iff.2) few.not_gt
  have ranged : ¬ (first.toNat = 0 ∨ (s.tower i).setup.keyCount < first.toNat + count.toNat - 1) :=
    fun h => h.elim (one ∘ byte_eq_zero_iff.2) inside.not_gt
  simp only [keysSnapshot, tower, field2, field3, enabled, Bool.true_eq_false, if_false, counted, ranged, byteOf_of_val hi,
    byteOf_toNat_self]
  rfl

/-- A run of keys of no length or too long, or out of the tower's keys (R194). -/
theorem keysSnapshot_range {s : State} {b first count : Byte} {i : TowerIx} (hi : i.val = b.toNat)
    (enabled : (s.tower i).setup.enabled = true) (fails : count = 0 ∨ 5 < count.toNat ∨ first = 0 ∨
      (s.tower i).setup.keyCount < first.toNat + count.toNat - 1) :
    keysSnapshot s [0x02, b, first, count] = .error .badField := by
  have tower : towerOf (byteAt [0x02, b, first, count] 1) = some i := towerOf_eq_some hi
  have field2 : byteAt [0x02, b, first, count] 2 = first.toNat := rfl
  have field3 : byteAt [0x02, b, first, count] 3 = count.toNat := rfl
  rw [byte_eq_zero_iff, byte_eq_zero_iff] at fails
  simp only [keysSnapshot, tower, field2, field3, enabled, Bool.true_eq_false, if_false]
  split
  · rfl
  · rename_i counted
    rw [if_pos]
    rcases fails with none | many | ranged
    · exact absurd (.inl none) counted
    · exact absurd (.inr many) counted
    · exact ranged

/-! ### GROUPS (R195) -/

theorem groupEntry_eq (i : TowerIx) (r : Group) : groupEntry i r =
    [byteOf r.index.val, byteOf (32 + 4 * i.val + r.index.val), presenceCode r.presence, byteOf r.missCount,
      byteOf ((if r.busy then 1 else 0) + if r.isLocal then 2 else 0)] ++
    be16 (match r.motionTimer with | some n => n | none => 65535) ++ [byteOf r.generation] ++ be16 r.timeouts := by
  rw [groupEntry, bitsOf_pair]
  cases r.motionTimer <;> rfl

/-- Settles O36: each target by the checks of its snapshot in order. -/
theorem towerQueriesAnswered : Obligations.TowerQueriesAnswered := by
  refine fun s t b held _ => ⟨fun payload => ⟨fun above => ?_, fun i hi => ?_⟩, fun first count payload =>
    ⟨fun above => ?_, fun i hi => ⟨fun off => ?_, fun on fails => ?_, fun on some_keys few one inside => ?_⟩⟩,
    fun payload => ⟨fun above => ?_, fun i hi => ⟨fun off => ?_, fun on => ?_⟩⟩⟩
  · refine Asks.tower.refused held (by rw [payload]; rfl) (by rw [payload]; rfl) ?_
    have none : towerOf (byteAt [0x01, b] 1) = none := towerOf_eq_none above
    simp only [towerSnapshot, payload, none]
  · refine Asks.tower.answered held (by rw [payload]; rfl) (by rw [payload]; rfl) ?_
    have tower : towerOf (byteAt [0x01, b] 1) = some i := towerOf_eq_some hi
    simp only [towerSnapshot, payload, tower, byteOf_of_val hi]
  · refine Asks.keys.refused held (by rw [payload]; rfl) (by rw [payload]; rfl) ?_
    have none : towerOf (byteAt [0x02, b, first, count] 1) = none := towerOf_eq_none above
    simp only [keysSnapshot, payload, none]
  · refine Asks.keys.refused held (by rw [payload]; rfl) (by rw [payload]; rfl) ?_
    have tower : towerOf (byteAt [0x02, b, first, count] 1) = some i := towerOf_eq_some hi
    simp only [keysSnapshot, payload, tower, off, if_true]
  · refine Asks.keys.refused held (by rw [payload]; rfl) (by rw [payload]; rfl) ?_
    rw [payload]
    exact keysSnapshot_range hi on fails
  · refine ⟨_, Asks.keys.answered held (by rw [payload]; rfl) (by rw [payload]; rfl)
      (by rw [payload]; exact keysSnapshot_shown hi on some_keys few one inside), fun len => ?_, fun m k inRun key => ?_⟩
    · have positive : first.toNat ≠ 0 := one ∘ byte_eq_zero_iff.2
      rw [flatMap_length_const keyEntry_length, List.length_take, List.length_drop, len]
      congr 1
      omega
    · have entry : (((((s.tower i).keys.drop (first.toNat - 1)).take count.toNat).flatMap keyEntry).drop (22 * m)).take 22 =
          keyEntry k := by
        refine flatMap_entry keyEntry_length _ m ?_
        rw [List.getElem?_take, if_pos inRun, List.getElem?_drop, key]
      rw [entry]
      exact ⟨keyEntry_flags k, rfl, fun c => keyEntry_computed, keyEntry_absent, rfl, keyEntry_settledAt k⟩
  · refine Asks.groups.refused held (by rw [payload]; rfl) (by rw [payload]; rfl) ?_
    have none : towerOf (byteAt [0x03, b] 1) = none := towerOf_eq_none above
    simp only [groupsSnapshot, payload, none]
  · refine Asks.groups.refused held (by rw [payload]; rfl) (by rw [payload]; rfl) ?_
    have tower : towerOf (byteAt [0x03, b] 1) = some i := towerOf_eq_some hi
    simp only [groupsSnapshot, payload, tower, off, if_true]
  · refine Asks.groups.answered held (by rw [payload]; rfl) (by rw [payload]; rfl) ?_
    have tower : towerOf (byteAt [0x03, b] 1) = some i := towerOf_eq_some hi
    simp only [groupsSnapshot, payload, tower, on, Bool.true_eq_false, if_false, byteOf_of_val hi,
      List.flatMap_congr fun r _ => groupEntry_eq i r]
    rfl

/-! ### PROFILE (R196) -/

/-- The words of a run of zones with their marks, one by one. -/
def zoneWordList (values : List Nat) (marks : List Bool) : List (List Byte) :=
  (List.range values.length).map fun m => zoneWord (values.getD m 0) (marks.getD m false)

theorem zoneWordList_cons (v : Nat) (vs : List Nat) (marks : List Bool) :
    zoneWordList (v :: vs) marks = zoneWord v (marks.getD 0 false) :: zoneWordList vs marks.tail := by
  unfold zoneWordList
  rw [List.length_cons, List.range_succ_eq_map, List.map_cons, List.map_map]
  congr 1
  refine List.map_congr_left fun m _ => ?_
  cases marks <;> rfl

theorem zoneWordList_getElem? {values : List Nat} {marks : List Bool} {m : Nat} (inside : m < values.length) :
    (zoneWordList values marks)[m]? = some (zoneWord (values.getD m 0) (marks.getD m false)) := by
  rw [zoneWordList, List.getElem?_map, List.getElem?_range inside]
  rfl

theorem zoneWords_eq_flatten : ∀ (values : List Nat) (marks : List Bool),
    zoneWords values marks = (zoneWordList values marks).flatten
  | [], _ => rfl
  | v :: vs, [] => by
    rw [zoneWords, zoneWords_eq_flatten vs [], zoneWordList_cons]
    rfl
  | v :: vs, m :: ms => by
    rw [zoneWords, zoneWords_eq_flatten vs ms, zoneWordList_cons]
    rfl

/-- The record that a PROFILE query shows: its status, body, pointer and marks, when it is not EMPTY (R196). -/
def Tower.shownProfile (w : Tower) (record : Byte) : Option (Byte × ProfileBody × Nat × List Bool) :=
  if record = 0 then w.staged.map fun q => (stagedCode (some q), q.body, q.pointer, q.written)
  else w.active.map fun a => (activeCode (some a), a.body, 0, [])

/-- The snapshot of PROFILE by the record that it shows (R196). -/
theorem profileSnapshot_shown {s : State} {b record first count : Byte} {i : TowerIx} (hi : i.val = b.toNat)
    (known : record.toNat ≤ 1) (some_zones : count ≠ 0) (few : count.toNat ≤ 48) :
    profileSnapshot s [0x04, b, record, first, count] = match (s.tower i).shownProfile record with
      | none => .ok (emptyProfileBytes i.val record.toNat first.toNat)
      | some (status, body, pointer, marks) =>
        if body.zoneCount ≤ first.toNat then .error .badField
        else .ok (profileBytes i.val record.toNat status body pointer marks first.toNat count.toNat) := by
  have tower : towerOf (byteAt [0x04, b, record, first, count] 1) = some i := towerOf_eq_some hi
  have field2 : byteAt [0x04, b, record, first, count] 2 = record.toNat := rfl
  have field3 : byteAt [0x04, b, record, first, count] 3 = first.toNat := rfl
  have field4 : byteAt [0x04, b, record, first, count] 4 = count.toNat := rfl
  have counted : ¬ (count = 0 ∨ 48 < count.toNat) := fun h => h.elim some_zones few.not_gt
  simp only [profileSnapshot, tower, field2, field3, field4, known.not_gt, Tower.shownProfile, ← byte_eq_zero_iff, counted,
    if_false]
  by_cases staged : record = 0
  · rw [if_pos staged, if_pos staged]
    cases (s.tower i).staged <;> rfl
  · rw [if_neg staged, if_neg staged]
    cases (s.tower i).active <;> rfl

/-- Settles O37. -/
theorem profileQueryAnswered : Obligations.ProfileQueryAnswered := by
  refine fun s t b record first count held payload => ⟨fun fails => ?_, fun i hi known some_zones few => ?_⟩
  · refine Asks.profile.refused held (by rw [payload]; rfl) (by rw [payload]; rfl) ?_
    have field2 : byteAt t.payload 2 = record.toNat := by rw [payload]; rfl
    have field4 : byteAt t.payload 4 = count.toNat := by rw [payload]; rfl
    rw [byte_eq_zero_iff] at fails
    unfold profileSnapshot
    split
    · rfl
    · rename_i i tower
      have below : ¬ 11 < b.toNat := by
        intro above
        have none : towerOf (byteAt t.payload 1) = none := by rw [payload]; exact towerOf_eq_none above
        rw [none] at tower
        cases tower
      simp only [field2, field4]
      split
      · rfl
      · rename_i known
        rw [if_pos ((fails.resolve_left below).resolve_left known)]
  · have snapshot := profileSnapshot_shown (s := s) (first := first) hi known some_zones few
    rw [← payload] at snapshot
    intro shown
    have same : (s.tower i).shownProfile record = shown := rfl
    rw [same] at snapshot
    clear_value shown
    refine ⟨fun empty => ?_, fun status body pointer marks full => ⟨fun beyond => ?_, fun inside len => ?_⟩⟩
    · refine Asks.profile.answered held (by rw [payload]; rfl) (by rw [payload]; rfl) (snapshot.trans ?_)
      rw [empty]
      simp only [emptyProfileBytes, byteOf_of_val hi, byteOf_toNat_self]
    · refine Asks.profile.refused held (by rw [payload]; rfl) (by rw [payload]; rfl) (snapshot.trans ?_)
      rw [full]
      exact if_pos beyond
    · refine ⟨zoneWordList ((body.zones.drop first.toNat).take (min count.toNat (body.zoneCount - first.toNat)))
        ((marks.drop first.toNat).take (min count.toNat (body.zoneCount - first.toNat))),
        Asks.profile.answered held (by rw [payload]; rfl) (by rw [payload]; rfl) (snapshot.trans ?_), ?_, ?_⟩
      · rw [full]
        refine (if_neg inside.not_ge).trans ?_
        simp only [profileBytes, byteOf_of_val hi, byteOf_toNat_self, zoneWords_eq_flatten]
      · simp [zoneWordList, len]
      · intro m v inRun zone
        rw [zoneWordList_getElem? (by simpa [len] using inRun), List.getD_eq_getElem?_getD, List.getD_eq_getElem?_getD,
          List.getElem?_take, if_pos inRun, List.getElem?_take, if_pos inRun, List.getElem?_drop, List.getElem?_drop, zone,
          zoneWord, Nat.add_comm]
        cases marks[first.toNat + m]? with
        | none => rfl
        | some mark => cases mark <;> rfl

end Sys2Proof.Machine
end

section
/-! PROOFS. The Readback Poller: triggers, rounds and the Cursor (R149 to R158). -/

namespace Sys2Proof.Machine

/-! ### Triggers (R149 to R151, R153) -/

theorem State.trigger_dropped {s : State} (passthrough : s.press.mode = .passthrough) : s.trigger = s := by
  unfold State.trigger
  rw [passthrough]

theorem State.trigger_overruns {s : State} (normal : s.press.mode = .normal) (active : s.poller.roundActive = true)
    (pending : s.poller.roundPending = true) : s.trigger = s.raise srcSweepOverrun .none := by
  unfold State.trigger
  rw [normal]
  exact (if_pos active).trans (if_pos pending)

theorem State.trigger_latches {s : State} (normal : s.press.mode = .normal) (active : s.poller.roundActive = true)
    (clear : s.poller.roundPending = false) : s.trigger = s.withPoller { s.poller with roundPending := true } := by
  unfold State.trigger
  rw [normal]
  exact (if_pos active).trans (if_neg (by simp [clear]))

theorem exec_sweepTimerExpiry {s : State} (ready : s.ready) {n : Nat} (runs : s.poller.sweepTimer = some n) :
    exec .sweepTimerExpiry s = .next (s.withPoller { s.poller with
      interval := s.poller.intervalPending.getD s.poller.interval, intervalPending := none,
      sweepTimer := some (s.poller.intervalPending.getD s.poller.interval) }).trigger.judgeNotices := by
  refine (event_released ready.1 _).trans ?_
  unfold State.sweepExpired
  rw [runs]

theorem exec_sheetPulse {s : State} (ready : s.ready) :
    exec .sheetPulse s = .next (s.withSheets (s.sheetCount + 1)).pollerSheet.judgeNotices :=
  event_released ready.1 fun s => (s.withSheets (s.sheetCount + 1)).pollerSheet

theorem ofNat_sheets (n : Sheets) : BitVec.ofNat 32 (n.toNat + 1) = n + 1 :=
  BitVec.eq_of_toNat_eq (by simp [BitVec.toNat_add])

/-! ### Rounds (R154, R155) -/

theorem mem_pollEntries {w : Tower} {i : TowerIx} {absentToo : Bool} {e : PollEntry} :
    e ∈ w.pollEntries i absentToo ↔ w.setup.enabled = true ∧ ∃ r ∈ w.groups,
      e = ⟨i, r.index, nodeAddress i r.index, r.generation⟩ ∧ (r.presence = .present ∨ absentToo = true) := by
  unfold Tower.pollEntries
  split
  · rename_i on
    simp only [on, true_and, List.mem_map, List.mem_filter, Bool.or_eq_true, beq_iff_eq]
    constructor
    · rintro ⟨r, ⟨mem, listed⟩, rfl⟩
      exact ⟨r, mem, rfl, listed.symm⟩
    · rintro ⟨r, mem, rfl, listed⟩
      exact ⟨r, ⟨mem, listed.symm⟩, rfl⟩
  · rename_i off
    simp [off]

/-- An entry of a poll list is that of a group listed (R154). -/
theorem State.mem_buildPollList {s : State} {absentToo : Bool} {e : PollEntry} : e ∈ s.buildPollList absentToo ↔
    (s.tower e.tower).setup.enabled = true ∧ ∃ r ∈ (s.tower e.tower).groups,
      e = ⟨e.tower, r.index, nodeAddress e.tower r.index, r.generation⟩ ∧
      (r.presence = .present ∨ absentToo = true) := by
  unfold State.buildPollList
  rw [List.mem_flatMap]
  constructor
  · rintro ⟨i, -, listed⟩
    obtain ⟨on, r, mem, rfl, how⟩ := mem_pollEntries.1 listed
    exact ⟨on, r, mem, rfl, how⟩
  · intro listed
    exact ⟨e.tower, mem_allTowers _, mem_pollEntries.2 listed⟩

/-- A poll list is in ascending order of tower and group (R154). -/
theorem State.buildPollList_sorted {s : State} (sorted : ∀ i, ((s.tower i).groups.map Group.index).Pairwise (· < ·))
    (absentToo : Bool) : (s.buildPollList absentToo).Pairwise
      fun a b => a.tower < b.tower ∨ a.tower = b.tower ∧ a.group < b.group := by
  unfold State.buildPollList
  rw [List.pairwise_flatMap]
  refine ⟨fun i _ => ?_, ?_⟩
  · unfold Tower.pollEntries
    split
    · refine List.pairwise_map.2 ?_
      have groups := (List.pairwise_map.1 (sorted i)).filter fun r => absentToo || r.presence == .present
      exact groups.imp fun before => .inr ⟨rfl, before⟩
    · exact .nil
  · have towers : allTowers.Pairwise (· < ·) := by decide
    refine towers.imp fun before a ha b hb => .inl ?_
    obtain ⟨-, r, -, rfl, -⟩ := mem_pollEntries.1 ha
    obtain ⟨-, r', -, rfl, -⟩ := mem_pollEntries.1 hb
    exact before

/-- Settles O38. -/
theorem triggersAndRounds : Obligations.TriggersAndRounds := by
  refine ⟨fun s ready => ⟨fun runs => ?_, fun stopped => ?_, fun timer => ?_, fun sheet below => ?_, fun sheet reached => ?_⟩,
    fun s => ⟨State.trigger_dropped, State.trigger_overruns, State.trigger_latches, State.trigger_starts,
      s.buildPollList (nextRound s.poller.roundNumber % 8 == 0), ?_, fun e => ?_,
      fun sorted => State.buildPollList_sorted sorted _⟩⟩
  · obtain ⟨n, timer⟩ := Option.isSome_iff_exists.1 runs
    refine (exec_sweepTimerExpiry ready timer).trans ?_
    cases s.poller.intervalPending <;> rfl
  · exact event_unchanged ready (by unfold State.sweepExpired; rw [stopped])
  · have change : (s.withSheets (s.sheetCount + 1)).pollerSheet = s.withSheets (s.sheetCount + 1) := by
      unfold State.pollerSheet
      rw [State.withSheets_poller, timer]
    rw [exec_sheetPulse ready, change, State.judgeNotices_of_none_due (by exact ready.2), ofNat_sheets]
    rfl
  · have change : (s.withSheets (s.sheetCount + 1)).pollerSheet = (s.withSheets (s.sheetCount + 1)).withPoller
        { s.poller with dividerCount := s.poller.dividerCount + 1 } := by
      unfold State.pollerSheet
      rw [State.withSheets_poller, sheet]
      exact if_neg below.not_ge
    rw [exec_sheetPulse ready, change, State.judgeNotices_of_none_due (by exact ready.2), ofNat_sheets]
    rfl
  · have change : (s.withSheets (s.sheetCount + 1)).pollerSheet = ((s.withSheets (s.sheetCount + 1)).withPoller
        { s.poller with dividerCount := 0 }).trigger := by
      unfold State.pollerSheet
      rw [State.withSheets_poller, sheet]
      exact if_pos reached
    rw [exec_sheetPulse ready, change, ofNat_sheets]
    rfl
  · have nonempty (l : List PollEntry) : (!l.isEmpty) = (l != []) := by cases l <;> rfl
    rw [← nonempty]
    rfl
  · rw [State.mem_buildPollList]
    have multiple : (nextRound s.poller.roundNumber % 8 == 0) = true ↔ (s.poller.roundNumber + 1) % 8 = 0 := by
      rw [beq_iff_eq, nextRound]
      omega
    rw [multiple]

/-! ### The Cursor (R156 to R158) -/

theorem State.not_stale_iff {s : State} {e : PollEntry} : s.stale e = false ↔
    ∃ r, (s.tower e.tower).group? e.group = some r ∧ r.generation = e.generation := by
  unfold State.stale
  cases (s.tower e.tower).group? e.group <;> simp

/-- The length of the run that a test holds for, when it ends at an entry. -/
theorem takeWhile_length_of_stop {α : Type} {p : α → Bool} : ∀ {l : List α} {n : Nat} {e : α}, l[n]? = some e →
    p e = false → (∀ m x, m < n → l[m]? = some x → p x = true) → (l.takeWhile p).length = n
  | [], n, e, at', _, _ => by simp at at'
  | a :: l, 0, e, at', stop, _ => by
    obtain rfl : a = e := by simpa using at'
    simp [stop]
  | a :: l, n + 1, e, at', stop, run => by
    have first : p a = true := run 0 a (Nat.succ_pos n) rfl
    rw [List.takeWhile_cons_of_pos first, List.length_cons,
      takeWhile_length_of_stop (l := l) (by simpa using at') stop
        fun m x below mem => run (m + 1) x (Nat.succ_lt_succ below) (by simpa using mem)]

/-- The Cursor comes to rest on the first entry that is not stale (R157). -/
theorem State.passStale_rests {s : State} {n : Nat} {e : PollEntry} (from' : s.poller.cursor ≤ n)
    (entry : s.poller.pollList[n]? = some e) (current : s.stale e = false)
    (stale : ∀ m x, s.poller.cursor ≤ m → m < n → s.poller.pollList[m]? = some x → s.stale x = true) :
    s.passStale = s.withPoller { s.poller with cursor := n } := by
  obtain ⟨k, rfl⟩ : ∃ k, n = s.poller.cursor + k := ⟨n - s.poller.cursor, by omega⟩
  have run : ((s.poller.pollList.drop s.poller.cursor).takeWhile s.stale).length = k := by
    refine takeWhile_length_of_stop (e := e) (by rw [List.getElem?_drop]; exact entry) current fun m x below mem => ?_
    rw [List.getElem?_drop] at mem
    exact stale _ x (Nat.le_add_right _ _) (Nat.add_lt_add_left below _) mem
  simp only [State.passStale, run]
  exact if_pos (List.getElem?_eq_some_iff.1 entry).1

/-- With no entry left that is not stale, the round ends (R158). -/
theorem State.passStale_ends {s : State}
    (stale : ∀ m x, s.poller.cursor ≤ m → s.poller.pollList[m]? = some x → s.stale x = true) :
    s.passStale = s.endRound := by
  have all : (s.poller.pollList.drop s.poller.cursor).takeWhile s.stale = s.poller.pollList.drop s.poller.cursor := by
    refine List.takeWhile_eq_self_iff.2 fun x mem => ?_
    obtain ⟨m, at'⟩ := List.mem_iff_getElem?.1 mem
    rw [List.getElem?_drop] at at'
    exact stale _ x (Nat.le_add_right _ _) at'
  simp only [State.passStale, all, List.length_drop]
  exact if_neg (by omega)

theorem State.endRound_idle {s : State} (clear : s.poller.roundPending = false) : s.endRound = s.abandonRound :=
  if_neg (by simp [clear])

theorem State.endRound_latched {s : State} (pending : s.poller.roundPending = true) :
    s.endRound = s.abandonRound.startRound := if_pos pending

/-- Settles O39. -/
theorem cursorAdvances : Obligations.CursorAdvances := by
  intro s p current
  have stale {x : PollEntry} (other : ¬ current x) : s.stale x = true := by
    rw [← Bool.not_eq_false, State.not_stale_iff]
    exact other
  refine ⟨fun none => ?_, fun n e inHand past entry is between => ?_, fun inHand past => ?_⟩
  · exact if_neg (by simp [show s.poller.inHand = false from none])
  · refine (if_pos inHand).trans ?_
    exact State.passStale_rests (s := s.withPoller { p with cursor := p.cursor + 1, inHand := false }) past entry
      (State.not_stale_iff.2 is) fun m x after below mem => stale (between m x after below mem)
  · have ends : s.pollEnded = (s.withPoller { p with cursor := p.cursor + 1, inHand := false }).endRound :=
      (if_pos inHand).trans (State.passStale_ends fun m x after mem => stale (past m x after mem))
    rw [ends]
    exact ⟨fun clear => State.endRound_idle clear, fun pending => State.endRound_latched pending⟩

end Sys2Proof.Machine
end

section
/-! PROOFS. The arbiter of the drive line and its four grants (R124, R130 to R140, R145). -/

namespace Sys2Proof.Machine

/-! ### The requesters (R130) -/

theorem State.requests_forward {s : State} : s.requests .forward = true ↔ ∃ t rest, s.drive.forward = t :: rest ∧
    (t.dest = 0xFF ∨ 2 ≤ s.console.freePlaces ∨ 1 ≤ s.console.freePlaces ∧
      ¬ (s.handler.hand = none ∧ s.handler.restart = .idle ∧ s.console.inbound ≠ [])) := by
  rw [← State.handlerReady_iff]
  have place : s.forwardPlace = true ↔
      2 ≤ s.console.freePlaces ∨ 1 ≤ s.console.freePlaces ∧ ¬ s.handlerReady = true := by
    unfold State.forwardPlace
    split <;> rename_i waits <;> rw [decide_eq_true_eq]
    · simp [waits]
    · exact ⟨fun one => .inr ⟨one, waits⟩, fun h => h.elim (Nat.le_of_succ_le) And.left⟩
  cases queue : s.drive.forward with
  | nil => simp [State.requests, queue]
  | cons t rest =>
    simp only [State.requests, queue, Bool.or_eq_true, beq_iff_eq, place]
    exact ⟨fun h => ⟨t, rest, rfl, h⟩, by rintro ⟨_, _, same, h⟩; cases same; exact h⟩

theorem Poller.current_isSome {p : Poller} :
    p.current.isSome = true ↔ p.roundActive = true ∧ p.cursor < p.pollList.length := by
  unfold Poller.current
  split <;> rename_i active <;> simp [active]

theorem State.requests_sweep {s : State} : s.requests .sweep = true ↔
    s.press.mode = .normal ∧ s.poller.roundActive = true ∧ s.poller.cursor < s.poller.pollList.length := by
  simp only [State.requests, Bool.and_eq_true, beq_iff_eq, Poller.current_isSome]

theorem Tower.lowestEligible_isSome {w : Tower} : w.lowestEligible.isSome = true ↔ ∃ g, w.eligible g = true := by
  have every (g : GroupIx) : g ∈ allGroups := by revert g; decide
  simp [Tower.lowestEligible, List.find?_isSome, every]

theorem State.requests_move {s : State} : s.requests .move = true ↔
    s.press.hold = .released ∧ s.press.mode = .normal ∧ ∃ i g, (s.tower i).eligible g = true := by
  simp only [State.requests, Bool.and_eq_true, beq_iff_eq, List.any_eq_true, State.towerEligible,
    Tower.lowestEligible_isSome, mem_allTowers, true_and, and_assoc]

/-- The choice of R131 as a table over the four requests. -/
theorem State.chosen_iff (s : State) :
    (s.chosen = some .halt ↔ s.requests .halt = true) ∧
      (s.chosen = some .forward ↔ ¬ s.requests .halt = true ∧ s.requests .forward = true) ∧
      (s.chosen = some .sweep ↔ ¬ s.requests .halt = true ∧ ¬ s.requests .forward = true ∧ s.requests .sweep = true ∧
        (s.requests .move = true → s.drive.turn = .sweep)) ∧
      (s.chosen = some .move ↔ ¬ s.requests .halt = true ∧ ¬ s.requests .forward = true ∧ s.requests .move = true ∧
        (s.requests .sweep = true → s.drive.turn = .move)) ∧
      (s.chosen = none ↔ ¬ s.requests .halt = true ∧ ¬ s.requests .forward = true ∧ ¬ s.requests .sweep = true ∧
        ¬ s.requests .move = true) := by
  unfold State.chosen
  cases s.requests .halt
  case true => simp
  cases s.requests .forward
  case true => simp
  cases s.requests .sweep <;> cases s.requests .move <;> cases s.drive.turn <;> simp

/-- Settles O40. -/
theorem arbiterOrder : Obligations.ArbiterOrder := by
  refine ⟨fun s => ?_, fun w g nodup => ?_⟩
  · have table := s.chosen_iff
    rw [State.requests_forward, State.requests_sweep, State.requests_move] at table
    exact table
  · rw [Tower.eligible_iff]
    refine and_congr_right fun _ => and_congr_left fun _ => ⟨?_, ?_⟩
    · rintro ⟨r, record, free⟩
      exact ⟨r, (Tower.group?_mem record).1, (Tower.group?_mem record).2, free⟩
    · rintro ⟨r, mem, index, free⟩
      cases record : w.group? g with
      | none => exact absurd index (by simpa using List.find?_eq_none.1 record r mem)
      | some found => exact ⟨found, rfl, Tower.group?_unique nodup record mem index ▸ free⟩

/-! ### Grants taken and not taken (R124) -/

theorem State.grant_taken {s : State} {r : Requester} (free : s.drive.line = .free) (chosen : s.chosen = some r)
    (granted : State → State) : s.grant r granted = granted s := if_pos ⟨free, chosen⟩

theorem State.grant_refused {s : State} {r : Requester} (none : ¬ (s.drive.line = .free ∧ s.chosen = some r))
    (granted : State → State) : s.grant r granted = s := if_neg none

/-- A grant that is made raises nothing: the state after the step is the granted one. -/
theorem event_granted {s : State} (ready : s.ready) {r : Requester} (free : s.drive.line = .free)
    (chosen : s.chosen = some r) {granted : State → State} {t : State} (change : granted s = t)
    (same : t.attention = s.attention) : event s (fun s => s.grant r granted) = .next t := by
  refine (event_released ready.1 _).trans (congrArg Host.Outcome.next ?_)
  rw [State.grant_taken free chosen, change]
  exact State.judgeNotices_of_none_due (by rw [same]; exact ready.2)

/-- A grant that is not made changes nothing. -/
theorem event_notGranted {s : State} (ready : s.ready) {r : Requester}
    (none : ¬ (s.drive.line = .free ∧ s.chosen = some r)) (granted : State → State) :
    event s (fun s => s.grant r granted) = .next s :=
  event_unchanged ready (State.grant_refused none granted)

theorem State.forwardWindow_nodeAddress (s : State) (i : TowerIx) (g : GroupIx) :
    s.forwardWindow (nodeAddress i g) =
      if (s.tower i).setup.enabled then (s.tower i).setup.replyWindow else 50 := by
  unfold State.forwardWindow
  rw [nodeParts_nodeAddress]
  rfl

theorem nodeAddress_ne_broadcast (i : TowerIx) (g : GroupIx) : nodeAddress i g ≠ Config.broadcastNode := by
  revert i g
  decide

/-- Settles O41. -/
theorem haltAndForwardGranted : Obligations.HaltAndForwardGranted := by
  intro s ready
  refine ⟨fun free chosen => ?_, fun t rest free chosen queue => ⟨fun broadcast => ?_, fun i g dest => ?_⟩,
    fun busy => ⟨?_, ?_, ?_, ?_⟩, fun other => ?_, fun other => ?_, fun other => ?_, fun other => ?_⟩
  · exact event_granted ready free chosen rfl rfl
  · refine event_granted ready free chosen (granted := State.grantForward) ?_ rfl
    unfold State.grantForward
    rw [queue]
    exact if_pos broadcast
  · refine event_granted ready free chosen (granted := State.grantForward) ?_ rfl
    unfold State.grantForward
    rw [queue]
    have other : t.dest ≠ Config.broadcastNode := dest ▸ nodeAddress_ne_broadcast i g
    refine (if_neg other).trans ?_
    rw [dest, State.forwardWindow_nodeAddress]
    rfl
  · exact event_notGranted ready (fun h => busy h.1) _
  · exact event_notGranted ready (fun h => busy h.1) _
  · exact event_notGranted ready (fun h => busy h.1) _
  · exact event_notGranted ready (fun h => busy h.1) _
  · exact event_notGranted ready (fun h => other h.2) _
  · exact event_notGranted ready (fun h => other h.2) _
  · exact event_notGranted ready (fun h => other h.2) _
  · exact event_notGranted ready (fun h => other h.2) _

/-! ### Sweep and Move (R132 to R135) -/

theorem Poller.current_of_entry {p : Poller} {e : PollEntry} (active : p.roundActive = true)
    (entry : p.pollList[p.cursor]? = some e) : p.current = some e := (if_pos active).trans entry

/-- The batch of a MOVE: the PENDING keys of the group, each with its Target (R135). -/
theorem Tower.moveBatch_eq (w : Tower) (g : GroupIx) :
    w.moveBatch g = (w.keys.filter fun k => (k.index - 1) / 12 = g.val ∧ k.state = .pending).filterMap
      fun k => k.computed.map fun c => (k.index, c.target) := by
  unfold Tower.moveBatch Tower.groupKeys
  rw [List.filterMap_filter, List.filterMap_filter]
  refine List.filterMap_congr fun k _ => ?_
  by_cases mine : (k.index - 1) / 12 = g.val <;> by_cases pending : k.state = .pending <;>
    simp [Key.group, Key.target, Config.keysPerGroup, mine, pending, Option.map_map, Function.comp_def]

/-- A lowest group is the first of the four that passes. -/
theorem find_allGroups {p : GroupIx → Bool} {g : GroupIx} (is : p g = true) (below : ∀ g' < g, p g' = false) :
    allGroups.find? p = some g := by
  have order : allGroups = List.finRange 4 := rfl
  rw [order, List.find?_eq_some_iff_getElem]
  refine ⟨is, g.val, by simp, by simp, fun j lower => ?_⟩
  simp only [List.getElem_finRange]
  exact by simpa using below ⟨j, lower.trans g.isLt⟩ lower

theorem Tower.towerEligible_false {s : State} {j : TowerIx} (none : ∀ g, (s.tower j).eligible g = false) :
    s.towerEligible j = false := by
  rw [← Bool.not_eq_true, State.towerEligible, Tower.lowestEligible_isSome]
  simp [none]

/-- The tower moved to the end of the rotation order (R133). -/
theorem rotate_split {before after : List TowerIx} {i : TowerIx} (first : i ∉ before) :
    rotate (before ++ i :: after) i = before ++ after ++ [i] := by
  rw [rotate, List.erase_append_right _ first, List.erase_cons_head]

/-- Settles O42. -/
theorem sweepAndMoveGranted : Obligations.SweepAndMoveGranted := by
  intro s ready free
  refine ⟨fun e r chosen entry record => ?_, fun before i after g r chosen order first none is below record => ?_⟩
  · have requests := (s.chosen_iff.2.2.1.1 chosen).2.2.1
    obtain ⟨-, active, -⟩ := State.requests_sweep.1 requests
    refine event_granted ready free chosen (granted := State.grantSweep) ?_ rfl
    unfold State.grantSweep
    rw [Poller.current_of_entry active entry]
    have found : (s.tower e.tower).group? e.group = some r := record
    simp only [found]
    rfl
  · refine event_granted ready free chosen (granted := State.grantMove) ?_ rfl
    have tower : s.drive.rotation.find? s.towerEligible = some i := by
      rw [order, List.find?_append, List.find?_eq_none.2 fun j mem => by
        rw [Tower.towerEligible_false (none j mem)]; decide]
      have eligible : s.towerEligible i = true := Tower.lowestEligible_isSome.2 ⟨g, is⟩
      simp [eligible]
    have group : (s.tower i).lowestEligible = some g := find_allGroups is below
    have found : (s.tower i).group? g = some r := record
    unfold State.grantMove
    rw [tower]
    simp only [group, found, order, rotate_split first, Tower.moveBatch_eq]
    rfl

end Sys2Proof.Machine
end

section
/-! PROOFS. The drive line: the end of sending, the HALT's effects and the gap (R124, R126, R145, R169), and what R7
discards. -/

namespace Sys2Proof.Machine

/-! ### The end of sending -/

/-- An event on the drive line that raises nothing. -/
theorem event_silent {s t : State} (ready : s.ready) {change : State → State} (is : change s = t)
    (same : t.attention = s.attention) : event s change = .next t := by
  rw [event_quiet ready.1 (by rw [is, same]; exact ready.2), is]

/-- A tower that a HALT leaves READY was READY before it: no key of it was MOVING (R29, R169). -/
theorem Tower.halted_ready {w : Tower} (ready : w.halted.derivedPhase = .ready) : w.derivedPhase = .ready := by
  obtain ⟨on, active, settled⟩ := Tower.derivedPhase_ready ready
  refine (w.derivedPhase_iff.2.2.2.1).2 ⟨on, Option.isSome_iff_ne_none.1 active, fun k mem => ?_⟩
  have after := settled _ (List.mem_map_of_mem (f := fun k => if w.busyGroup k.group then k.halted else k) mem)
  by_cases moving : k.state = .moving
  · by_cases busy : w.busyGroup k.group = true
    · simp only [busy, if_true, Key.halted, moving] at after
      split at after <;> cases after
    · simp only [busy, Bool.false_eq_true, if_false] at after
      exact after
  · have stays : k.halted = k := if_neg moving
    simpa [stays] using after

/-- No tower enters READY through a HALT (R169). -/
theorem State.halted_silent {s : State} (phases : s.phasesOk) :
    readyOccurrences s.tower (s.reworked (fun w => w.setup.enabled && w.groups.any Group.busy)
      (fun s i => (s.tower i).halted) allTowers) allTowers = [] := by
  refine List.map_eq_nil_iff.2 (List.filter_eq_nil_iff.2 fun i _ => ?_)
  rw [decide_eq_true_eq]
  rintro ⟨after, before⟩
  unfold State.reworked at after
  split at after
  · exact before ((phases i).trans (Tower.halted_ready after))
  · exact before after

theorem State.haltEffects_silent {s : State} (phases : s.phasesOk) : s.haltEffects = s.withTowers
    (s.reworked (fun w => w.setup.enabled && w.groups.any Group.busy) (fun s i => (s.tower i).halted) allTowers) := by
  refine (State.haltTower_reworks.foldl allTowers allTowers_nodup s).trans ?_
  rw [State.halted_silent phases, State.raiseAll_nil]

theorem State.haltEffects_tower (s : State) (i : TowerIx) : s.haltEffects.tower i =
    if (s.tower i).setup.enabled && (s.tower i).groups.any Group.busy then (s.tower i).halted.derived
    else s.tower i :=
  (State.haltTower_reworks.foldl_tower allTowers_nodup s i).trans
    (if_congr (and_iff_right (mem_allTowers i)) rfl rfl)

/-- A tower with a Busy group after a HALT, in the words of R169. -/
theorem Tower.halted_derived (w : Tower) : w.halted.derived = Tower.withKeys
    { w with groups := w.groups.map fun r => if r.busy then { r with busy := false, motionTimer := none } else r }
    (w.keys.map fun k =>
      if k.state = .moving ∧ w.groups.any (fun r => r.index.val == (k.index - 1) / 12 && r.busy) then
        { k with state := if k.computed.isSome then .pending else .held }
      else k) := by
  have keys : (w.keys.map fun k => if w.busyGroup k.group then k.halted else k) = w.keys.map fun k =>
      if k.state = .moving ∧ w.groups.any (fun r => r.index.val == (k.index - 1) / 12 && r.busy) then
        { k with state := if k.computed.isSome then .pending else .held }
      else k := by
    refine List.map_congr_left fun k _ => ?_
    show (if w.busyGroup k.group then k.halted else k) =
      if k.state = .moving ∧ w.busyGroup k.group = true then _ else k
    by_cases busy : w.busyGroup k.group = true <;> by_cases moving : k.state = .moving <;>
      simp [Key.halted, busy, moving]
  unfold Tower.halted Tower.derived Tower.withKeys
  rw [keys]
  rfl

/-- Settles O43. -/
theorem sendingEnds : Obligations.SendingEnds := by
  intro s ready
  refine ⟨fun r t line => ?_, fun r t line => ?_, fun t warm line => ?_, fun t line => ?_, fun t line => ?_,
    fun k line => ?_⟩
  · refine event_silent ready (change := State.sendComplete) ?_ rfl
    unfold State.sendComplete
    rw [line]
    rfl
  · refine event_silent ready (change := State.sendComplete) ?_ rfl
    unfold State.sendComplete
    rw [line]
    rfl
  · refine event_silent ready (change := State.sendComplete) ?_ rfl
    unfold State.sendComplete
    rw [line]
    rfl
  · refine event_silent ready (change := State.haltComplete) ?_ rfl
    unfold State.haltComplete
    rw [line]
    rfl
  · obtain ⟨u, hu⟩ : ∃ u, u = s.withDrive { s.drive with dlde := false, haltPending := false, line := .gap 2 } :=
      ⟨_, rfl⟩
    have tower : u.tower = s.tower := by rw [hu]; rfl
    have change : s.haltComplete = u.haltEffects := by
      unfold State.haltComplete
      rw [line, hu]
      rfl
    have ran : exec .haltSent s = .next u.haltEffects.judgeNotices :=
      (event_released ready.1 State.haltComplete).trans (by rw [change])
    have towers (i : TowerIx) : u.haltEffects.judgeNotices.tower i =
        if (s.tower i).setup.enabled && (s.tower i).groups.any Group.busy then (s.tower i).halted.derived
        else s.tower i := by
      rw [State.judgeNotices_tower, State.haltEffects_tower, tower]
    have silent (phases : s.phasesOk) : u.haltEffects.judgeNotices.console = s.console ∧
        u.haltEffects.judgeNotices.attention = s.attention := by
      rw [State.haltEffects_silent fun i => by rw [tower]; exact phases i,
        State.judgeNotices_of_none_due (by rw [hu]; exact ready.2), hu]
      exact ⟨rfl, rfl⟩
    obtain ⟨c, bare⟩ : ∃ c, u.haltEffects.judgeNotices.bare = (u.withConsole c).bare := by
      obtain ⟨notices, bare⟩ := u.haltEffects.judgeNotices_bare
      rw [State.haltEffects_bare] at bare
      exact ⟨_, bare⟩
    obtain ⟨nreset, -, handler, curves, sheets, drive, poller, press, pending⟩ := State.bare_eq_iff.1 bare
    have blocks : (u.nreset, u.handler, u.curves, u.sheetCount, u.poller, u.press, u.pending) =
        (s.nreset, s.handler, s.curves, s.sheetCount, s.poller, s.press, s.pending) := by rw [hu]; rfl
    have line' : u.drive = { s.drive with dlde := false, haltPending := false, line := .gap 2 } := by rw [hu]; rfl
    generalize u.haltEffects.judgeNotices = n at *
    refine ⟨n, ran, drive.trans line', fun i => ?_, silent, ?_⟩
    · exact (towers i).trans (if_congr Iff.rfl (Tower.halted_derived _) rfl)
    · rw [nreset, handler, curves, sheets, poller, press, pending]
      exact blocks
  · refine event_silent ready (change := State.gapOver) ?_ rfl
    unfold State.gapOver
    rw [line]
    rfl

/-! ### What R7 discards -/

/-- The entries of a STATUS payload are three bytes each, the key's number first (R5). -/
theorem statusEntries_keys : ∀ {bytes : List Byte} {es : List StatusEntry}, statusEntries bytes = some es →
    bytes.length = 3 * es.length ∧
      ∀ m < es.length, (bytes[3 * m]?).map BitVec.toNat = (es.map StatusEntry.key)[m]?
  | [], es, h => by
    cases h
    exact ⟨rfl, nofun⟩
  | [_], _, h => nomatch h
  | [_, _], _, h => nomatch h
  | key :: hi :: lo :: rest, es, h => by
    rw [statusEntries, Option.map_eq_some_iff] at h
    obtain ⟨more, read, rfl⟩ := h
    obtain ⟨length, keys⟩ := statusEntries_keys read
    refine ⟨by simp only [List.length_cons, length]; omega, fun m below => ?_⟩
    cases m with
    | zero => rfl
    | succ m => exact keys m (Nat.lt_of_succ_lt_succ below)

/-- What R7 takes as a STATUS lists the keys noted. -/
theorem statusVerdict_taken {keys : List Nat} {t : Telegram} (taken : statusVerdict keys t ≠ .discarded) :
    t.kind = 0x99 ∧ t.payload.length = 1 + 3 * keys.length ∧
      ∀ m < keys.length, (t.payload[1 + 3 * m]?).map BitVec.toNat = keys[m]? := by
  unfold statusVerdict at taken
  split at taken
  · rename_i kind
    split at taken
    · rename_i flags rest payload
      split at taken
      · rename_i es read
        split at taken
        · rename_i listed
          obtain ⟨length, each⟩ := statusEntries_keys read
          rw [listed] at each
          have count : es.length = keys.length := by rw [← listed, List.length_map]
          refine ⟨kind, ?_, fun m below => ?_⟩
          · rw [payload, List.length_cons, length, count, Nat.add_comm]
          · rw [payload, Nat.add_comm 1, List.getElem?_cons_succ]
            exact each m (count ▸ below)
        · exact absurd rfl taken
      · exact absurd rfl taken
    · exact absurd rfl taken
  · exact absurd rfl taken

theorem moveVerdict_taken {t : Telegram} (taken : moveVerdict t ≠ .discarded) :
    (t.kind = 0x91 ∧ t.payload = []) ∨ t.kind = 0x92 ∧ (t.payload = [0x01] ∨ t.payload = [0x02]) := by
  unfold moveVerdict at taken
  split at taken
  · rename_i accept
    exact .inl accept
  · split at taken
    · rename_i local'
      exact .inr ⟨local'.1, .inl local'.2⟩
    · split at taken
      · rename_i busy
        exact .inr ⟨busy.1, .inr busy.2⟩
      · exact absurd rfl taken

/-- What R7 takes inside the window of a transaction. -/
theorem telegramVerdict_taken {r : Transaction} {t : Telegram} (taken : telegramVerdict r t ≠ .discarded) :
    t.src = r.dest ∧ ((∃ k, r.work = .forward k) ∨ t.dest = 0x08 ∧
      ((∃ g b, r.work = .move g b ∧ moveVerdict t ≠ .discarded) ∨
        ∃ g keys, r.work = .status g keys ∧ statusVerdict keys t ≠ .discarded)) := by
  unfold telegramVerdict at taken
  split at taken
  · rename_i src
    refine ⟨src, ?_⟩
    split at taken
    · rename_i k work
      exact .inl ⟨k, work⟩
    · rename_i g b work
      split at taken
      · rename_i own
        exact .inr ⟨own, .inl ⟨g, b, work, taken⟩⟩
      · exact absurd rfl taken
    · rename_i g keys work
      split at taken
      · rename_i own
        exact .inr ⟨own, .inr ⟨g, keys, work, taken⟩⟩
      · exact absurd rfl taken
  · exact absurd rfl taken

theorem driveVerdict_taken {l : Line} {chars : List RxChar} (taken : driveVerdict l chars ≠ .discarded) :
    ∃ r n t, l = .waiting r n ∧ receive chars = .valid t ∧ telegramVerdict r t ≠ .discarded := by
  unfold driveVerdict at taken
  split at taken
  · rename_i r n t read
    exact ⟨r, n, t, rfl, read, taken⟩
  · exact absurd rfl taken

/-- The five reception commands change nothing with characters that R7 discards (log 6). -/
theorem discarded_unchanged {s : State} {chars : List RxChar} (ready : s.ready)
    (discarded : driveVerdict s.drive.line chars = .discarded) :
    exec (.driveTelegramDiscarded chars) s = .next s ∧ exec (.moveAcceptReceived chars) s = .next s ∧
      exec (.moveRejectReceived chars) s = .next s ∧ exec (.statusReceived chars) s = .next s ∧
      exec (.forwardedReplyReceived chars) s = .next s := by
  refine ⟨?_, ?_, ?_, ?_, ?_⟩
  · exact event_unchanged ready (change := fun s => s) rfl
  · show execMoveAcceptReceived chars s = _
    refine event_unchanged ready ?_
    rw [discarded]
    cases s.drive.line.window? <;> rfl
  · show execMoveRejectReceived chars s = _
    refine event_unchanged ready ?_
    rw [discarded]
    cases s.drive.line.window? <;> rfl
  · show execStatusReceived chars s = _
    refine event_unchanged ready ?_
    rw [discarded]
    cases s.drive.line.window? <;> rfl
  · show execForwardedReplyReceived chars s = _
    refine event_unchanged ready ?_
    rw [discarded]

/-- Settles O44. -/
theorem driveTelegramDiscarded : Obligations.DriveTelegramDiscarded := by
  intro s chars ready cause
  refine discarded_unchanged ready ?_
  by_contra taken
  obtain ⟨r, n, t, line, read, verdict⟩ := driveVerdict_taken taken
  obtain ⟨src, work⟩ := telegramVerdict_taken verdict
  rcases cause with closed | invalid | ⟨r', n', t', line', read', why⟩
  · exact closed r n line
  · exact invalid t read
  · obtain ⟨rfl, rfl⟩ := Line.waiting.inj (line.symm.trans line')
    obtain rfl := Reception.valid.inj (read.symm.trans read')
    rcases why with stranger | ⟨ours, why⟩
    · exact stranger src
    · rcases work with ⟨k, forward⟩ | ⟨own, work⟩
      · exact ours k forward
      · rcases why with other | ⟨⟨g, b, move⟩, accept, reject⟩ | ⟨g, keys, status, why⟩
        · exact other own
        · rcases work with ⟨_, _, _, taken⟩ | ⟨_, _, same, _⟩
          · exact (moveVerdict_taken taken).elim accept reject
          · exact nomatch move.symm.trans same
        · rcases work with ⟨_, _, same, _⟩ | ⟨_, _, same, taken⟩
          · exact nomatch status.symm.trans same
          · obtain ⟨-, rfl⟩ := Work.status.inj (status.symm.trans same)
            obtain ⟨kind, length, each⟩ := statusVerdict_taken taken
            rcases why with other | other | ⟨m, below, other⟩
            · exact other kind
            · exact other length
            · exact other (each m below)

end Sys2Proof.Machine
end

section
/-! PROOFS. The ends of transactions on the drive line: replies taken, windows that expire, MotionTimers (R116 to R122,
R128, R136 to R141). -/

namespace Sys2Proof.Machine

/-! ### Operations on different blocks, in either order -/

theorem State.raise_withLine (s : State) (i : SourceIx) (d : Detail) (l : Line) :
    (s.raise i d).withLine l = (s.withLine l).raise i d := by
  unfold State.raise
  rw [State.withLine_source]
  split <;> rfl

theorem State.raiseAll_withLine (s : State) (os : List (SourceIx × Detail)) (l : Line) :
    (s.raiseAll os).withLine l = (s.withLine l).raiseAll os := by
  induction os generalizing s with
  | nil => rfl
  | cons o os ih => rw [State.raiseAll_cons, ih, State.raise_withLine, State.raiseAll_cons]

theorem State.raise_withTower (s : State) (i : SourceIx) (d : Detail) (j : TowerIx) (w : Tower) :
    (s.raise i d).withTower j w = (s.withTower j w).raise i d := by
  unfold State.raise
  rw [State.withTower_source]
  split <;> rfl

theorem State.raiseAll_withTower (s : State) (os : List (SourceIx × Detail)) (j : TowerIx) (w : Tower) :
    (s.raiseAll os).withTower j w = (s.withTower j w).raiseAll os := by
  induction os generalizing s with
  | nil => rfl
  | cons o os ih => rw [State.raiseAll_cons, ih, State.raise_withTower, State.raiseAll_cons]

theorem State.withTower_twice (s : State) (i : TowerIx) (v w : Tower) :
    (s.withTower i v).withTower i w = s.withTower i w := by simp [State.withTower]

theorem State.derivePhase_withLine (s : State) (i : TowerIx) (l : Line) :
    (s.derivePhase i).withLine l = (s.withLine l).derivePhase i := by
  rw [State.derivePhase_eq, State.derivePhase_eq, State.raiseAll_withLine]
  rfl

theorem State.endRound_withLine (s : State) (l : Line) : (s.withLine l).endRound = s.endRound.withLine l := by
  unfold State.endRound
  rw [State.withLine_poller]
  split <;> rfl

theorem State.passStale_withLine (s : State) (l : Line) : (s.withLine l).passStale = s.passStale.withLine l := by
  unfold State.passStale
  have stale : (s.withLine l).stale = s.stale := rfl
  simp only [State.withLine_poller, stale]
  split
  · rfl
  · exact s.endRound_withLine l

/-- The Poller looks at no line. -/
theorem State.pollEnded_withLine (s : State) (l : Line) : (s.withLine l).pollEnded = s.pollEnded.withLine l := by
  unfold State.pollEnded
  rw [State.withLine_poller]
  split
  · exact (s.withPoller { s.poller with cursor := s.poller.cursor + 1, inHand := false }).passStale_withLine l
  · rfl

/-! ### One event at one tower -/

/-- TOWER_READY when the derivation of a Phase enters READY (R31). -/
def Tower.readied (w : Tower) (i : TowerIx) (before : Phase) : List (SourceIx × Detail) :=
  if w.phase = .ready ∧ before ≠ .ready then [(srcTowerReady, .tower i)] else []

/-- A tower replaced, its occurrences, and its one Phase derivation: the occurrences with TOWER_READY after them. -/
theorem State.raised_derived (s : State) (i : TowerIx) (v : Tower) (os : List (SourceIx × Detail)) :
    ((s.withTower i v).raiseAll os).derivePhase i =
      (s.withTower i v.derived).raiseAll (os ++ v.derived.readied i v.phase) := by
  rw [State.derivePhase_eq, State.raiseAll_tower, State.withTower_tower_self, State.raiseAll_withTower,
    State.withTower_twice, State.raiseAll_append]
  rfl

/-- The guard of a transaction passes for the group's record under its Generation (R128). -/
theorem State.guarded_record {s : State} {i : TowerIx} {g : GroupIx} {r : Group} {generation : Nat}
    (record : (s.tower i).group? g = some r) (same : r.generation = generation) :
    s.guarded (nodeAddress i g) generation = some (i, g, r) := by
  rw [State.guarded_nodeAddress, record]
  exact if_pos same

theorem State.guarded_stray {s : State} {i : TowerIx} {g : GroupIx} {generation : Nat}
    (stray : ∀ r, (s.tower i).group? g = some r → r.generation ≠ generation) :
    s.guarded (nodeAddress i g) generation = none := by
  rw [State.guarded_nodeAddress]
  cases record : (s.tower i).group? g with
  | none => rfl
  | some r => exact if_neg (stray r record)

theorem driveVerdict_waiting {r : Transaction} {n : Nat} {chars : List RxChar} {t : Telegram}
    (read : receive chars = .valid t) : driveVerdict (.waiting r n) chars = telegramVerdict r t := by
  unfold driveVerdict
  rw [read]

/-! ### MOVE_ACCEPT and MOVE_REJECT -/

theorem telegramVerdict_move {r : Transaction} {t : Telegram} {generation : Nat} {batch : List (Nat × Nat)}
    (work : r.work = .move generation batch) (src : t.src = r.dest) (dest : t.dest = 0x08) :
    telegramVerdict r t = moveVerdict t := by
  unfold telegramVerdict
  rw [if_pos src, work]
  exact if_pos dest

theorem moveVerdict_accept {t : Telegram} (kind : t.kind = 0x91) (payload : t.payload = []) :
    moveVerdict t = .moveAccept := if_pos ⟨kind, payload⟩

/-- The reason that a MOVE_REJECT gives (Table 1-2). -/
def rejectReason (reason : Byte) : RejectReason := if reason = 0x01 then .panelLocal else .driveBusy

theorem moveVerdict_reject {t : Telegram} {reason : Byte} (kind : t.kind = 0x92) (payload : t.payload = [reason])
    (known : reason = 0x01 ∨ reason = 0x02) : moveVerdict t = .moveReject (rejectReason reason) := by
  unfold moveVerdict
  rw [kind, payload]
  rcases known with rfl | rfl <;> rfl

/-- A key of the group at MOVE_ACCEPT (R117). -/
theorem Key.accept_eq (k : Key) (g : GroupIx) (batch : List (Nat × Nat)) :
    (if k.group = g.val then k.accept batch else k) = match batch.find? fun b => b.1 = k.index with
      | some b => if decide ((k.index - 1) / 12 = g.val) = true ∧ k.state = .pending then
          { k with state := .moving, sentTarget := some b.2 } else k
      | none => k := by
  show (if k.group = g.val then k.accept batch else k) = match batch.find? fun b => b.1 == k.index with
      | some b => if decide (k.group = g.val) = true ∧ k.state = .pending then
          { k with state := .moving, sentTarget := some b.2 } else k
      | none => k
  unfold Key.accept
  by_cases here : k.group = g.val <;> cases batch.find? (fun b => b.1 == k.index) <;> cases k.state <;> simp [here]

/-- A tower after MOVE_ACCEPT (R117). -/
theorem Tower.applyAccept_derived (w : Tower) (g : GroupIx) (batch : List (Nat × Nat)) :
    (w.applyAccept g batch).derived = Tower.withKeys
      { w with groups := w.groups.map fun r => if r.index = g then
          { r with missCount := 0, busy := true, motionTimer := some (1000 * w.setup.motionLimit) } else r }
      (w.keys.map fun k => match batch.find? fun b => b.1 = k.index with
        | some b => if decide ((k.index - 1) / 12 = g.val) = true ∧ k.state = .pending then
            { k with state := .moving, sentTarget := some b.2 } else k
        | none => k) := by
  simp only [← Key.accept_eq, Nat.mul_comm 1000]
  rfl

/-- A key of the batch at MOVE_REJECT (R118). -/
theorem Key.judgeIn_eq (k : Key) (g : GroupIx) (batch : List (Nat × Nat)) (tolerance : Nat) (sheets : Sheets) :
    (if k.group = g.val then k.judgeIn batch tolerance sheets else k) =
      if decide ((k.index - 1) / 12 = g.val) = true ∧ k.state = .pending ∧
        (batch.find? fun b => b.1 = k.index).isSome = true then k.rejudge tolerance sheets else k := by
  rw [List.isSome_find?]
  show (if k.group = g.val then (if k.state = .pending ∧ (batch.any fun b => b.1 == k.index) = true then _ else _) else k) =
    if decide (k.group = g.val) = true ∧ k.state = .pending ∧ (batch.any fun b => b.1 == k.index) = true then _ else k
  by_cases here : k.group = g.val
  · rw [if_pos here]
    exact if_congr (and_iff_right (decide_eq_true here)).symm rfl rfl
  · rw [if_neg here, if_neg fun h => here (of_decide_eq_true h.1)]

/-- A tower after MOVE_REJECT (R118). -/
theorem Tower.applyReject_derived (w : Tower) (g : GroupIx) (batch : List (Nat × Nat)) {reason : Byte} (sheets : Sheets) :
    (w.applyReject g batch (rejectReason reason) sheets).derived = Tower.withKeys
      { w with groups := w.groups.map fun r => if r.index = g then
          (if reason = 0x01 then { r with missCount := 0, isLocal := true } else
            { r with missCount := 0, busy := true, motionTimer := some (1000 * w.setup.motionLimit) }) else r }
      (w.keys.map fun k => if decide ((k.index - 1) / 12 = g.val) = true ∧ k.state = .pending ∧
          (batch.find? fun b => b.1 = k.index).isSome = true then k.rejudge w.setup.tolerance sheets else k) := by
  rw [Tower.applyReject_eq]
  simp only [← Key.judgeIn_eq, Nat.mul_comm 1000]
  unfold rejectReason
  split <;> rfl

theorem State.takeAccept_stray {s : State} {r : Transaction} {generation : Nat} (batch : List (Nat × Nat))
    (stray : s.guarded r.dest generation = none) : s.takeAccept r generation batch = s.withLine .free := by
  unfold State.takeAccept
  rw [stray]

theorem State.takeReject_stray {s : State} {r : Transaction} {generation : Nat} (batch : List (Nat × Nat))
    (reason : RejectReason) (stray : s.guarded r.dest generation = none) :
    s.takeReject r generation batch reason = s.withLine .free := by
  unfold State.takeReject
  rw [stray]

theorem State.takeAccept_guarded {s : State} {r : Transaction} {generation : Nat} {batch : List (Nat × Nat)}
    {i : TowerIx} {g : GroupIx} {record : Group} (guard : s.guarded r.dest generation = some (i, g, record)) :
    s.takeAccept r generation batch =
      ((s.withLine .free).withTower i ((s.tower i).applyAccept g batch)).derivePhase i := by
  unfold State.takeAccept
  rw [guard]
  exact State.derivePhase_withLine _ i .free

theorem State.takeReject_guarded {s : State} {r : Transaction} {generation : Nat} {batch : List (Nat × Nat)}
    {reason : RejectReason} {i : TowerIx} {g : GroupIx} {record : Group}
    (guard : s.guarded r.dest generation = some (i, g, record)) : s.takeReject r generation batch reason =
      ((s.withLine .free).withTower i ((s.tower i).applyReject g batch reason s.sheetCount)).derivePhase i := by
  unfold State.takeReject
  rw [guard]
  exact State.derivePhase_withLine _ i .free

/-- Settles O45. -/
theorem moveReplied : Obligations.MoveReplied := by
  intro s chars t i g generation window n batch ready line read src dest w free carried inGroup accepted rejected after
  have verdict : driveVerdict s.drive.line chars = moveVerdict t := by
    rw [line, driveVerdict_waiting read]
    exact telegramVerdict_move rfl src dest
  have accepts (kind : t.kind = 0x91) (payload : t.payload = []) {u : State}
      (e : (s.takeAccept ⟨nodeAddress i g, .move generation batch, window⟩ generation batch).judgeNotices = u) :
      exec (.moveAcceptReceived chars) s = .next u := by
    show execMoveAcceptReceived chars s = _
    refine (event_released ready.1 _).trans (congrArg Host.Outcome.next ?_)
    rw [verdict, moveVerdict_accept kind payload, line]
    exact e
  have rejects {reason : Byte} (kind : t.kind = 0x92) (payload : t.payload = [reason])
      (known : reason = 0x01 ∨ reason = 0x02) {u : State}
      (e : (s.takeReject ⟨nodeAddress i g, .move generation batch, window⟩ generation batch
        (rejectReason reason)).judgeNotices = u) : exec (.moveRejectReceived chars) s = .next u := by
    show execMoveRejectReceived chars s = _
    refine (event_released ready.1 _).trans (congrArg Host.Outcome.next ?_)
    rw [verdict, moveVerdict_reject kind payload known, line]
    exact e
  have quiet : (s.withLine .free).attention.due = [] := ready.2
  refine ⟨fun r record same => ⟨fun kind payload => ?_, fun reason kind payload known => ?_⟩,
    fun stray => ⟨fun kind payload => ?_, fun kind known => ?_⟩⟩
  · refine accepts kind payload ?_
    rw [State.takeAccept_guarded (State.guarded_record record same), State.derivePhase_judgeNotices quiet]
    have tower := (s.tower i).applyAccept_derived g batch
    show ((s.withLine .free).withTower i ((s.tower i).applyAccept g batch).derived).phaseChanged i w.phase
      ((s.tower i).applyAccept g batch).derived.phase = _
    rw [tower]
    rfl
  · refine rejects kind payload known ?_
    rw [State.takeReject_guarded (State.guarded_record record same), State.derivePhase_judgeNotices quiet]
    have tower := (s.tower i).applyReject_derived g batch (reason := reason) s.sheetCount
    have before : ((s.tower i).applyReject g batch (rejectReason reason) s.sheetCount).phase = w.phase := rfl
    rw [before]
    show ((s.withLine .free).withTower i ((s.tower i).applyReject g batch (rejectReason reason) s.sheetCount).derived
      ).phaseChanged i w.phase ((s.tower i).applyReject g batch (rejectReason reason) s.sheetCount).derived.phase = _
    rw [tower]
    rfl
  · refine accepts kind payload ?_
    rw [State.takeAccept_stray batch (State.guarded_stray stray), State.judgeNotices_of_none_due quiet]
    rfl
  · obtain ⟨reason, payload, reasons⟩ : ∃ reason, t.payload = [reason] ∧ (reason = 0x01 ∨ reason = 0x02) :=
      known.elim (fun h => ⟨_, h, .inl rfl⟩) fun h => ⟨_, h, .inr rfl⟩
    refine rejects kind payload reasons ?_
    rw [State.takeReject_stray batch _ (State.guarded_stray stray), State.judgeNotices_of_none_due quiet]
    rfl

end Sys2Proof.Machine
end

section
/-! PROOFS. Windows and MotionTimers that expire, the end of a forward, and a STATUS taken (R107, R116, R119 to R122,
R137 to R141). -/

namespace Sys2Proof.Machine

/-! ### The end of a forward (R14, R141) -/

theorem State.endForward_eq (s : State) (t : Telegram) : s.endForward t = { s with
    console := { s.console with
      reservedForward := false, tx := if s.console.link = .up then s.console.tx ++ [t] else s.console.tx },
    drive := { s.drive with dlde := false, line := .free } } := by
  unfold State.endForward
  cases s.console.link <;> rfl

/-- Settles O48. -/
theorem forwardEnds : Obligations.ForwardEnds := by
  intro s dest kind window n ready line ended
  have ends (t : Telegram) : s.endForward t = ended t := s.endForward_eq t
  refine ⟨fun chars t read src => ?_, ?_⟩
  · have verdict : driveVerdict s.drive.line chars = .forwarded t := by
      rw [line, driveVerdict_waiting read, telegramVerdict, if_pos src]
    show execForwardedReplyReceived chars s = _
    refine event_silent ready (t := ended t) ?_ rfl
    rw [verdict]
    exact ends t
  · refine event_silent ready (change := State.forwardExpired) (t := ended (makeTelegram 0x01 0x08 0x83 [dest, kind])) ?_ rfl
    unfold State.forwardExpired
    rw [line]
    exact ends _

/-! ### An expiry counted against a group (R119, R120) -/

/-- The state after an expiry with the Generation of the group's record. -/
theorem State.applyExpiry_eq (s : State) (i : TowerIx) (g : GroupIx) (judged : Tower) :
    s.applyExpiry i g judged = (s.withTower i (judged.applyMiss g).derived).raiseAll
      (judged.absence i g ++ (judged.applyMiss g).derived.readied i (judged.applyMiss g).phase) :=
  s.raised_derived i _ _

theorem Group.goesAbsent_eq (r : Group) : r.goesAbsent = (r.missCount == 2) := by
  rw [Group.goesAbsent, Bool.eq_iff_iff, beq_iff_eq, beq_iff_eq]
  exact Nat.succ_inj

theorem Group.missed_eq (r : Group) : r.missed =
    (let missed := { r with
      timeouts := if r.timeouts < 65535 then r.timeouts + 1 else r.timeouts,
      missCount := if r.missCount < 3 then r.missCount + 1 else r.missCount }
    if r.missCount = 2 then { missed with presence := .absent, busy := false, motionTimer := none } else missed) := by
  unfold Group.missed
  rw [Group.goesAbsent_eq]
  by_cases third : r.missCount = 2
  · rw [if_pos (beq_iff_eq.2 third), if_pos third]
    rfl
  · rw [if_neg fun h => third (beq_iff_eq.1 h), if_neg third]
    rfl

/-- The keys of a tower judged, then an expiry counted against its group, in the words of R119 and R120. -/
theorem Tower.applyMiss_derived {w : Tower} {g : GroupIx} {r : Group} (record : w.group? g = some r) {judged : Key → Key}
    (keeps : ∀ k, (judged k).index = k.index) :
    (({ w with keys := w.keys.map judged } : Tower).applyMiss g).derived = Tower.withKeys
      { w with groups := w.groups.map fun r => if r.index = g then
          (let missed := { r with
            timeouts := if r.timeouts < 65535 then r.timeouts + 1 else r.timeouts,
            missCount := if r.missCount < 3 then r.missCount + 1 else r.missCount }
          if r.missCount = 2 then { missed with presence := .absent, busy := false, motionTimer := none } else missed)
        else r }
      (w.keys.map fun k => if (r.missCount == 2) = true ∧ decide ((k.index - 1) / 12 = g.val) = true then
        { judged k with state := .unreachable } else judged k) := by
  have again : ({ w with keys := w.keys.map judged } : Tower).group? g = some r := record
  have group (k : Key) : (judged k).group = k.group := Key.group_congr (keeps k)
  have same : (if (r.missCount == 2) = true then
        (({ w with keys := w.keys.map judged } : Tower).mapGroup g Group.missed).mapGroupKeys g
          fun k => { k with state := .unreachable }
      else ({ w with keys := w.keys.map judged } : Tower).mapGroup g Group.missed) = { w with
        keys := w.keys.map fun k => if (r.missCount == 2) = true ∧ decide ((k.index - 1) / 12 = g.val) = true then
          { judged k with state := .unreachable } else judged k,
        groups := w.groups.map fun r => if r.index = g then r.missed else r } := by
    split <;> rename_i third
    · simp only [Tower.mapGroup, Tower.mapGroupKeys, List.map_map, Function.comp_def, group, third, true_and,
        decide_eq_true_eq] <;> rfl
    · simp only [Tower.mapGroup, third, Bool.false_eq_true, false_and, if_false]
  unfold Tower.applyMiss
  simp only [again, Group.goesAbsent_eq]
  rw [same]
  simp only [Group.missed_eq]
  rfl

theorem Tower.absence_eq {w : Tower} {g : GroupIx} {r : Group} (record : w.group? g = some r) (i : TowerIx) :
    w.absence i g = if (r.missCount == 2) = true then [(srcGroupAbsent, .group i g)] else [] := by
  unfold Tower.absence
  simp only [record, Group.goesAbsent_eq]

theorem Tower.applyMiss_phase (w : Tower) (g : GroupIx) : (w.applyMiss g).phase = w.phase := by
  unfold Tower.applyMiss
  split
  · dsimp only
    split <;> rfl
  · rfl

/-- The batch judged, at every key of the tower (R106, R137). -/
theorem Tower.judgeBatch_eq (w : Tower) (g : GroupIx) (batch : List (Nat × Nat)) (sheets : Sheets) :
    w.judgeBatch g batch sheets = { w with
      keys := w.keys.map fun k => if decide ((k.index - 1) / 12 = g.val) = true ∧ k.state = .pending ∧
        (batch.any fun b => b.1 = k.index) = true then k.rejudge w.setup.tolerance sheets else k } := by
  have judged (k : Key) := k.judgeIn_eq g batch w.setup.tolerance sheets
  simp only [List.isSome_find?] at judged
  simp only [← judged]
  rfl

/-- The expiry of a MotionTimer (R116). -/
theorem Tower.applyMotionExpiry_derived (w : Tower) (g : GroupIx) : (w.applyMotionExpiry g).derived = Tower.withKeys
    { w with groups := w.groups.map fun r => if r.index = g then { r with busy := false, motionTimer := none } else r }
    (w.keys.map fun k => if (decide ((k.index - 1) / 12 = g.val) && k.state == .moving) = true then
      { k with state := .fault } else k) := by
  have key (k : Key) : (if k.group = g.val then if k.state = .moving then { k with state := .fault } else k else k) =
      if (decide ((k.index - 1) / 12 = g.val) && k.state == .moving) = true then { k with state := .fault } else k := by
    show _ = if (decide (k.group = g.val) && k.state == .moving) = true then _ else k
    by_cases here : k.group = g.val <;> by_cases moving : k.state = .moving <;> simp [here, moving]
  simp only [← key]
  rfl

/-- The keys that enter FAULT, in ascending order, of two readings of the same keys. -/
theorem newFaults_map (i : TowerIx) (keys : List Key) (before after : Key → Key) :
    newFaults i (keys.map before) (keys.map after) =
      (keys.filter fun k => (before k).state ≠ .fault ∧ (after k).state = .fault).map
        fun k => (srcKeyFault, .key i (after k).index) := by
  induction keys with
  | nil => rfl
  | cons k keys ih =>
    rw [List.map_cons, List.map_cons, newFaults, ih, List.filter_cons]
    by_cases enters : (before k).state ≠ .fault ∧ (after k).state = .fault
    · rw [if_pos enters, if_pos (decide_eq_true enters), List.map_cons]
    · rw [if_neg enters, if_neg fun h => enters (of_decide_eq_true h)]

theorem event_change {s t : State} (ready : s.ready) {change : State → State} (is : change s = t) :
    event s change = .next t.judgeNotices := by rw [event_released ready.1, is]

/-- Settles O47. -/
theorem groupTimersExpire : Obligations.GroupTimersExpire := by
  constructor
  · intro s i g generation window n ready w free inGroup counted
    have quiet : (s.withLine .free).attention.due = [] := ready.2
    have expiry {r : Group} (record : w.group? g = some r) {judged : Key → Key}
        (keeps : ∀ k, (judged k).index = k.index) :
        (s.applyExpiry i g { w with keys := w.keys.map judged }).withLine .free = counted r judged := by
      rw [State.applyExpiry_eq, Tower.applyMiss_derived record keeps, Tower.applyMiss_phase,
        Tower.absence_eq (w := { w with keys := w.keys.map judged }) record, State.raiseAll_withLine]
      rfl
    refine ⟨fun batch line => ⟨fun r record same => ?_, fun stray => ?_⟩, fun keys line =>
      ⟨fun r record same => ?_, fun stray => ?_⟩⟩
    · refine event_change ready (change := State.moveExpired) ?_
      unfold State.moveExpired
      rw [line]
      simp only [State.guarded_record record same, Tower.judgeBatch_eq]
      refine expiry record fun k => ?_
      split
      · exact (Key.rejudge_keeps k _ _).1.index
      · rfl
    · refine (event_silent ready (change := State.moveExpired) (t := s.withLine .free) ?_ rfl)
      unfold State.moveExpired
      rw [line]
      simp only [State.guarded_stray stray]
    · refine event_change ready (change := State.statusExpired) ?_
      unfold State.statusExpired
      rw [line]
      simp only [State.guarded_record record same]
      have counts := expiry record (judged := id) fun _ => rfl
      rw [List.map_id] at counts
      rw [← State.pollEnded_withLine]
      exact congrArg State.pollEnded counts
    · refine (event_silent ready (change := State.statusExpired) (t := (s.withLine .free).pollEnded) ?_
        (State.pollEnded_attention _))
      unfold State.statusExpired
      rw [line]
      simp only [State.guarded_stray stray]
      exact (State.pollEnded_withLine _ _).symm
  · intro s i g ready w hit u raised
    refine ⟨fun r ms record running => ?_, fun stopped => ?_⟩
    · refine event_change ready (change := fun s => s.motionExpired i g) ?_
      have found : ((s.tower i).group? g).bind Group.motionTimer = some ms := by
        rw [show (s.tower i).group? g = some r from record]
        exact running
      have faults : newFaults i w.keys (w.applyMotionExpiry g).keys =
          (w.keys.filter hit).map fun k => (srcKeyFault, .key i k.index) := by
        have keys : (w.applyMotionExpiry g).keys = w.keys.map fun k => if hit k then { k with state := .fault } else k :=
          congrArg Tower.keys (Tower.applyMotionExpiry_derived w g)
        rw [keys]
        have both := newFaults_map i w.keys id fun k => if hit k then { k with state := .fault } else k
        rw [List.map_id] at both
        rw [both]
        have enters (k : Key) : (k.state ≠ .fault ∧ (if hit k = true then { k with state := .fault } else k).state = .fault)
            ↔ hit k = true := by
          by_cases is : hit k = true
          · have moving : k.state = .moving := by simpa using ((Bool.and_eq_true _ _).mp is).2
            simp [is, moving]
          · simp [is]
        simp only [id_eq, enters, Bool.decide_eq_true]
        refine List.map_congr_left fun k _ => ?_
        split <;> rfl
      unfold State.motionExpired
      simp only [found]
      rw [State.raised_derived, faults, Tower.applyMotionExpiry_derived]
      rfl
    · refine event_unchanged ready (change := fun s => s.motionExpired i g) ?_
      have none : ((s.tower i).group? g).bind Group.motionTimer = none := by
        cases record : (s.tower i).group? g with
        | none => rfl
        | some r => exact stopped r record
      unfold State.motionExpired
      simp only [none]

end Sys2Proof.Machine
end

section
/-! PROOFS. A STATUS taken for a STATUS_REQUEST (R107 to R111, R122, R138). -/

namespace Sys2Proof.Machine

/-! ### The entries of a STATUS payload (R5) -/

/-- The entry that three bytes of a STATUS payload are read as. -/
def readEntry (e : Byte × Byte × Byte) : StatusEntry :=
  { key := e.1.toNat, fault := u16 e.2.1 e.2.2 / 32768 % 2 == 1, moving := u16 e.2.1 e.2.2 / 16384 % 2 == 1,
    position := u16 e.2.1 e.2.2 % 4096 }

theorem Byte.getLsbD_eq (b : Byte) (n : Nat) : b.getLsbD n = (b.toNat / 2 ^ n % 2 == 1) :=
  Nat.testBit_eq_decide_div_mod_eq

theorem readEntry_moving (e : Byte × Byte × Byte) : (readEntry e).moving = e.2.1.getLsbD 6 := by
  rw [Byte.getLsbD_eq]
  have low := e.2.2.isLt
  show (u16 e.2.1 e.2.2 / 16384 % 2 == 1) = _
  rw [u16, show (e.2.1.toNat * 256 + e.2.2.toNat) / 16384 = e.2.1.toNat / 2 ^ 6 by omega]

theorem readEntry_eq {e : Byte × Byte × Byte} {n : Nat} (key : e.1.toNat = n) : readEntry e =
    ⟨n, e.2.1.getLsbD 7, e.2.1.getLsbD 6, e.2.1.toNat % 16 * 256 + e.2.2.toNat⟩ := by
  have low := e.2.2.isLt
  have fault : (readEntry e).fault = e.2.1.getLsbD 7 := by
    rw [Byte.getLsbD_eq]
    show (u16 e.2.1 e.2.2 / 32768 % 2 == 1) = _
    rw [u16, show (e.2.1.toNat * 256 + e.2.2.toNat) / 32768 = e.2.1.toNat / 2 ^ 7 by omega]
  have position : (readEntry e).position = e.2.1.toNat % 16 * 256 + e.2.2.toNat := by
    show u16 e.2.1 e.2.2 % 4096 = _
    rw [u16]
    omega
  rw [← fault, ← position, ← readEntry_moving, ← key]
  rfl

/-- What R7 takes as a STATUS. -/
theorem statusVerdict_listed {t : Telegram} {keys : List Nat} {flags : Byte} {entries : List (Byte × Byte × Byte)}
    (kind : t.kind = 0x99) (payload : t.payload = flags :: entries.flatMap fun e => [e.1, e.2.1, e.2.2])
    (listed : entries.map (fun e => e.1.toNat) = keys) :
    statusVerdict keys t = .status (flags.getLsbD 0) (entries.map readEntry) := by
  have read : statusEntries (entries.flatMap fun e => [e.1, e.2.1, e.2.2]) = some (entries.map readEntry) :=
    statusEntries_flatMap entries
  have same : (entries.map readEntry).map StatusEntry.key = keys := by
    rw [List.map_map]
    exact listed
  have local' : (flags.toNat % 2 == 1) = flags.getLsbD 0 := by
    rw [Byte.getLsbD_eq, pow_zero, Nat.div_one]
  unfold statusVerdict
  rw [if_pos (by exact kind), payload]
  simp only [read, local']
  exact if_pos same

/-! ### The keys and the group (R107, R122) -/

/-- A key of a group before the entries are read: UNKNOWN when the group returns (R122). -/
def Key.beforeEntries (g : GroupIx) (r : Group) (k : Key) : Key :=
  if (k.index - 1) / 12 = g.val ∧ r.presence = .absent then { k with state := .unknown, retry := 0, sentTarget := none }
  else k

/-- A key after the entries of a STATUS (R107). -/
def Key.afterEntries (g : GroupIx) (r : Group) (entries : List (Byte × Byte × Byte)) (tolerance : Nat) (sheets : Sheets)
    (k : Key) : Key :=
  match entries.find? fun e => e.1.toNat = k.index with
  | some e => if (k.index - 1) / 12 = g.val then
      (k.beforeEntries g r).applyEntry ⟨k.index, e.2.1.getLsbD 7, e.2.1.getLsbD 6,
        e.2.1.toNat % 16 * 256 + e.2.2.toNat⟩ tolerance sheets
    else k
  | none => k.beforeEntries g r

theorem Key.beforeEntries_here {g : GroupIx} {k : Key} (here : k.group = g.val) (r : Group) :
    k.beforeEntries g r = if (r.presence == .absent) = true then k.returned else k := by
  by_cases absent : r.presence = .absent
  · exact (if_pos ⟨here, absent⟩).trans (if_pos (beq_iff_eq.2 absent)).symm
  · exact (if_neg fun h => absent h.2).trans (if_neg fun h => absent (beq_iff_eq.1 h)).symm

theorem Key.afterEntries_eq (k : Key) (g : GroupIx) (r : Group) (entries : List (Byte × Byte × Byte)) (tolerance : Nat)
    (sheets : Sheets) : (if k.group = g.val then
        k.statusApplied (r.presence == .absent) (entries.map readEntry) tolerance sheets else k) =
      k.afterEntries g r entries tolerance sheets := by
  unfold Key.afterEntries
  by_cases here : k.group = g.val
  · have index : (k.beforeEntries g r).index = k.index := by
      unfold Key.beforeEntries
      split <;> rfl
    have found : (entries.map readEntry).find? (fun e => e.key == k.index) =
        (entries.find? fun e => e.1.toNat = k.index).map readEntry := List.find?_map
    rw [if_pos here, Key.statusApplied]
    simp only [← Key.beforeEntries_here here]
    rw [index, found]
    cases entry : entries.find? fun e => decide (e.1.toNat = k.index) with
    | none => rfl
    | some e =>
      have key : e.1.toNat = k.index := by simpa using List.find?_some entry
      show (k.beforeEntries g r).applyEntry (readEntry e) tolerance sheets = _
      rw [readEntry_eq key]
      exact (if_pos here).symm
  · have stays : k.beforeEntries g r = k := if_neg fun h => here h.1
    rw [if_neg here, stays]
    split
    · exact (if_neg here).symm
    · rfl

theorem Key.afterEntries_index (g : GroupIx) (r : Group) (entries : List (Byte × Byte × Byte)) (tolerance : Nat)
    (sheets : Sheets) (k : Key) : (k.afterEntries g r entries tolerance sheets).index = k.index := by
  rw [← Key.afterEntries_eq]
  split
  · exact (Key.Follows.statusApplied True k _ _ tolerance sheets).keeps.index
  · rfl

theorem Tower.beforeEntries_keys (w : Tower) (g : GroupIx) (r : Group) :
    (w.beforeEntries g r).keys = w.keys.map (Key.beforeEntries g r) := by
  unfold Tower.beforeEntries
  split <;> rename_i absent
  · refine List.map_congr_left fun k _ => ?_
    show (if (k.index - 1) / 12 = g.val then k.returned else k) = if (k.index - 1) / 12 = g.val ∧ _ then _ else k
    simp only [absent, and_true]
    rfl
  · refine (List.map_id _).symm.trans (List.map_congr_left fun k _ => ?_)
    exact (if_neg fun h => absent h.2).symm

/-- The group record after a STATUS (R107). -/
theorem Group.applyStatus_eq (r : Group) (isLocal anyMoving : Bool) (motionLimit : Nat) :
    r.applyStatus isLocal anyMoving motionLimit = { r with
      presence := .present, missCount := 0, isLocal := isLocal, busy := anyMoving,
      motionTimer := if anyMoving = false then none
        else if r.busy then r.motionTimer else some (1000 * motionLimit) } := by
  unfold Group.applyStatus Group.startMotion
  rw [Nat.mul_comm 1000]
  cases anyMoving
  · rfl
  · cases busy : r.busy <;> simp

/-- A tower after a STATUS (R107). -/
theorem Tower.applyStatus_derived (w : Tower) (g : GroupIx) (r : Group) (isLocal : Bool)
    (entries : List (Byte × Byte × Byte)) (sheets : Sheets) :
    (w.applyStatus g r isLocal (entries.map readEntry) sheets).derived = Tower.withKeys
      { w with groups := w.groups.map fun r => if r.index = g then
          { r with
            presence := .present, missCount := 0, isLocal := isLocal, busy := entries.any fun e => e.2.1.getLsbD 6,
            motionTimer := if (entries.any fun e => e.2.1.getLsbD 6) = false then none
              else if r.busy then r.motionTimer else some (1000 * w.setup.motionLimit) }
        else r }
      (w.keys.map (Key.afterEntries g r entries w.setup.tolerance sheets)) := by
  have moving : (entries.map readEntry).any StatusEntry.moving = entries.any fun e => e.2.1.getLsbD 6 := by
    rw [List.any_map]
    exact congrArg (entries.any ·) (funext readEntry_moving)
  rw [Tower.applyStatus_eq, moving]
  simp only [Key.afterEntries_eq, Group.applyStatus_eq]
  rfl

/-- The occurrences of a STATUS (R104, R122). -/
theorem Tower.statusOccurrences_eq (w w' : Tower) (i : TowerIx) (g : GroupIx) (r : Group)
    (entries : List (Byte × Byte × Byte)) (tolerance : Nat) (sheets : Sheets)
    (keys : w'.keys = w.keys.map (Key.afterEntries g r entries tolerance sheets)) :
    w.statusOccurrences i g r w' = (if r.presence = .absent then [(srcGroupReturned, .group i g)] else []) ++
      (w.keys.filter fun k => (k.beforeEntries g r).state ≠ .fault ∧
        (k.afterEntries g r entries tolerance sheets).state = .fault).map fun k => (srcKeyFault, .key i k.index) := by
  unfold Tower.statusOccurrences
  rw [Tower.beforeEntries_keys, keys, newFaults_map]
  simp only [Key.afterEntries_index]

/-- Settles O46. -/
theorem statusTaken : Obligations.StatusTaken := by
  intro s chars t i g generation window n keys flags entries ready line read src dest kind payload listed w free anyMoving
  have verdict : driveVerdict s.drive.line chars = .status (flags.getLsbD 0) (entries.map readEntry) := by
    rw [line, driveVerdict_waiting read, telegramVerdict, if_pos src]
    exact (if_pos dest).trans (statusVerdict_listed kind payload listed)
  have takes {u : State} (e : s.takeStatus ⟨nodeAddress i g, .status generation keys, window⟩ generation
      (flags.getLsbD 0) (entries.map readEntry) = u) : exec (.statusReceived chars) s = .next u.judgeNotices := by
    show execStatusReceived chars s = _
    refine event_change ready ?_
    rw [verdict, line]
    exact e
  constructor
  · intro r record same before after u faults raised
    refine takes ?_
    unfold State.takeStatus
    simp only [State.guarded_record record same]
    rw [← State.pollEnded_withLine]
    refine congrArg State.pollEnded ?_
    have tower := Tower.applyStatus_derived w g r (flags.getLsbD 0) entries s.sheetCount
    have after' : ((s.tower i).applyStatus g r (flags.getLsbD 0) (entries.map readEntry) s.sheetCount).keys =
        (s.tower i).keys.map (Key.afterEntries g r entries (s.tower i).setup.tolerance s.sheetCount) :=
      congrArg Tower.keys tower
    have phase : ((s.tower i).applyStatus g r (flags.getLsbD 0) (entries.map readEntry) s.sheetCount).phase = w.phase := by
      rw [Tower.applyStatus_eq]
    unfold State.applyStatus
    simp only []
    rw [State.raised_derived, State.raiseAll_withLine,
      Tower.statusOccurrences_eq _ _ i g r entries _ s.sheetCount after', tower, phase]
    rfl
  · intro stray
    have poll : s.takeStatus ⟨nodeAddress i g, .status generation keys, window⟩ generation (flags.getLsbD 0)
        (entries.map readEntry) = (s.withLine .free).pollEnded := by
      unfold State.takeStatus
      simp only [State.guarded_stray stray]
      exact (State.pollEnded_withLine _ _).symm
    rw [takes poll, State.judgeNotices_of_none_due (by rw [State.pollEnded_attention]; exact ready.2)]
    rfl

end Sys2Proof.Machine
end

section
/-! PROOFS. What a STATUS entry and a recompute do to a key in each state, and when a key is on the line (R102, R105,
R106, R108 to R111). -/

namespace Sys2Proof.Machine

/-! ### Judging a position (R102, R105) -/

theorem withinTolerance_iff {tolerance p o : Nat} :
    withinTolerance tolerance p o = true ↔ p ≤ o + tolerance ∧ o ≤ p + tolerance := by
  rw [withinTolerance, Bool.and_eq_true, decide_eq_true_eq, decide_eq_true_eq]

theorem reached_iff {tolerance p : Nat} {k : Key} {c : Computed} (computed : k.computed = some c) :
    reached tolerance (some p) k.target = true ↔ p ≤ c.target + tolerance ∧ c.target ≤ p + tolerance := by
  rw [Key.target, computed]
  exact withinTolerance_iff

theorem Key.rejudge_near {k : Key} {c : Computed} {p tolerance : Nat} (sheets : Sheets) (computed : k.computed = some c)
    (reported : k.lastReported = some p) (near : p ≤ c.target + tolerance ∧ c.target ≤ p + tolerance) :
    k.rejudge tolerance sheets = k.settle sheets := by
  rw [Key.rejudge, reported]
  exact if_pos ((reached_iff computed).2 near)

theorem Key.rejudge_far {k : Key} {c : Computed} {p tolerance : Nat} (sheets : Sheets) (computed : k.computed = some c)
    (reported : k.lastReported = some p) (far : ¬ (p ≤ c.target + tolerance ∧ c.target ≤ p + tolerance)) :
    k.rejudge tolerance sheets = { k with state := .pending } := by
  rw [Key.rejudge, reported]
  exact if_neg fun h => far ((reached_iff computed).1 h)

/-- A key with its state written again. -/
theorem Key.with_state {k : Key} {state : KeyState} (is : k.state = state) : { k with state := state } = k := by
  subst is
  rfl

/-! ### Entries by state (R108 to R111) -/

/-- A key with the position of its entry noted (R108). -/
def Key.reported (k : Key) (p : Nat) : Key := { k with lastReported := some p }

theorem Key.reported_settle {k : Key} (p : Nat) (sheets : Sheets) : (k.reported p).settle sheets =
    if k.state = .settled then { k with lastReported := some p, state := .settled } else
      { k with lastReported := some p, state := .settled, retry := 0, settledAt := some sheets } := by
  refine if_ctx_congr Iff.rfl (fun is => ?_) fun _ => rfl
  exact (Key.with_state (k := k.reported p) is).symm

section entry
variable {k : Key} {key carried tolerance : Nat} {sheets : Sheets} {fault moving : Bool}

theorem Key.applyEntry_of_fault (is : k.state = .fault) :
    k.applyEntry ⟨key, fault, moving, carried⟩ tolerance sheets = k.reported (min carried 4000) := if_pos is

theorem Key.applyEntry_faulted (other : k.state ≠ .fault) : k.applyEntry ⟨key, true, moving, carried⟩ tolerance sheets =
    { k.reported (min carried 4000) with state := .fault } := if_neg other

theorem Key.applyEntry_moving (other : k.state ≠ .fault) : k.applyEntry ⟨key, false, true, carried⟩ tolerance sheets =
    if k.state = .moving then k.reported (min carried 4000)
    else { k.reported (min carried 4000) with state := .moving, sentTarget := none } := if_neg other

theorem Key.applyEntry_atRest (other : k.state ≠ .fault) : k.applyEntry ⟨key, false, false, carried⟩ tolerance sheets =
    (k.reported (min carried 4000)).atRest (min carried 4000) tolerance sheets := if_neg other

end entry

section rest
variable {k : Key} {p tolerance : Nat} {sheets : Sheets}

theorem Key.atRest_moving (is : k.state = .moving) : k.atRest p tolerance sheets = k.endMotion p tolerance sheets := by
  rw [Key.atRest, is]

theorem Key.atRest_held (is : k.state = .held) : k.atRest p tolerance sheets = k := by
  rw [Key.atRest, is]

theorem Key.atRest_unknown_none (is : k.state = .unknown) (none : k.computed = none) :
    k.atRest p tolerance sheets = { k with state := .held } := by
  rw [Key.atRest, is, none]
  rfl

/-- A key at rest that has a Target and is not MOVING, HELD or in error is judged (R111). -/
theorem Key.atRest_judged {c : Computed} (computed : k.computed = some c)
    (is : k.state = .unknown ∨ k.state = .pending ∨ k.state = .settled) :
    k.atRest p tolerance sheets = k.rejudge tolerance sheets := by
  unfold Key.atRest
  rcases is with is | is | is <;> rw [is]
  exact if_neg (by simp [computed])

theorem Key.endMotion_none (unsent : k.sentTarget = none) (none : k.computed = none) :
    k.endMotion p tolerance sheets = { k with state := .held } := by
  rw [Key.endMotion, unsent, none]
  rfl

/-- A key that moved on its own is judged against its Target (R110). -/
theorem Key.endMotion_unsent {c : Computed} (unsent : k.sentTarget = none) (computed : k.computed = some c) :
    k.endMotion p tolerance sheets = if p ≤ c.target + tolerance ∧ c.target ≤ p + tolerance then k.settle sheets
      else { k with state := .pending } := by
  rw [Key.endMotion, unsent]
  refine (if_neg (by simp [computed])).trans (if_congr (reached_iff computed) rfl rfl)

/-- A key that stopped where it was sent is judged against its Target (R110). -/
theorem Key.endMotion_arrived {c : Computed} {sent : Nat} (toward : k.sentTarget = some sent)
    (near : p ≤ sent + tolerance ∧ sent ≤ p + tolerance) (computed : k.computed = some c) :
    k.endMotion p tolerance sheets = if p ≤ c.target + tolerance ∧ c.target ≤ p + tolerance then k.settle sheets
      else { k with state := .pending, retry := 0 } := by
  rw [Key.endMotion, toward]
  refine (if_pos (withinTolerance_iff.2 near)).trans (if_congr (reached_iff computed) rfl rfl)

/-- A key that stopped short is tried again, three times at most (R110). -/
theorem Key.endMotion_short {sent : Nat} (toward : k.sentTarget = some sent)
    (far : ¬ (p ≤ sent + tolerance ∧ sent ≤ p + tolerance)) : k.endMotion p tolerance sheets =
      if k.retry < 3 then { k with state := .pending, retry := k.retry + 1 } else { k with state := .fault } := by
  rw [Key.endMotion, toward]
  exact if_neg fun h => far (withinTolerance_iff.1 h)

end rest

/-! ### The recompute outcome (R105, R106) -/

theorem Key.recomputeOutcome_stays {k : Key} (tolerance : Nat) (sheets : Sheets) (onLine : Bool)
    (is : k.state = .unknown ∨ k.state = .moving ∨ k.state = .fault ∨ k.state = .unreachable) :
    k.recomputeOutcome tolerance sheets onLine = k := by
  unfold Key.recomputeOutcome
  rcases is with is | is | is | is <;> rw [is]

theorem Key.recomputeOutcome_judged {k : Key} {c : Computed} (tolerance : Nat) (sheets : Sheets) {onLine : Bool}
    (computed : k.computed = some c) (is : k.state = .held ∨ k.state = .settled ∨ k.state = .pending ∧ onLine = false) :
    k.recomputeOutcome tolerance sheets onLine = k.rejudge tolerance sheets := by
  unfold Key.recomputeOutcome
  rcases is with is | is | ⟨is, off⟩ <;> rw [is]
  · exact if_pos (by simp [computed])
  · exact if_neg (by simp [off])

/-! ### A key on the line (R106) -/

theorem Line.transaction?_eq_some {l : Line} {r : Transaction} : l.transaction? = some r ↔
    (∃ t, l = .sending (.transaction r) t false) ∨ ∃ n, l = .waiting r n := by
  unfold Line.transaction?
  split
  · simp
  · simp
  · rename_i unsent unawaited
    refine iff_of_false nofun ?_
    rintro (⟨t, rfl⟩ | ⟨n, rfl⟩)
    · exact unsent r t rfl
    · exact unawaited r n rfl

theorem State.onLine_iff {s : State} {i : TowerIx} {k : Key} : s.onLine i k = true ↔
    ∃ (r : Transaction) (generation : Nat) (batch : List (Nat × Nat)) (g : GroupIx),
      s.drive.line.transaction? = some r ∧ r.work = .move generation batch ∧ r.dest = nodeAddress i g ∧
        g.val = (k.index - 1) / 12 ∧ generation = (s.tower i).generation ∧ ∃ b ∈ batch, b.1 = k.index := by
  constructor
  · intro on
    unfold State.onLine at on
    split at on
    · rename_i dest generation batch window line
      split at on
      · rename_i j g parts
        simp only [Bool.and_eq_true, beq_iff_eq, List.any_eq_true] at on
        obtain ⟨⟨⟨rfl, group⟩, same⟩, carried⟩ := on
        exact ⟨_, generation, batch, g, line, rfl, nodeParts_eq_some.1 parts, group, same.symm, carried⟩
      · cases on
    · cases on
  · rintro ⟨⟨dest, work, window⟩, generation, batch, g, line, rfl, rfl, group, same, b, mem, index⟩
    unfold State.onLine
    rw [line]
    simp only [nodeParts_nodeAddress, Bool.and_eq_true, beq_iff_eq, List.any_eq_true]
    exact ⟨⟨⟨trivial, group⟩, same.symm⟩, b, mem, index⟩

/-- Settles O49. -/
theorem entryAndRecomputeTables : Obligations.EntryAndRecomputeTables := by
  intro k tolerance sheets
  refine ⟨fun key carried fault moving => ?_, fun onLine => ?_, fun pending => ?_, fun s i => ?_⟩
  · intro p out as settled near
    have same (state : KeyState) (is : k.state = state) : k.reported p = as state :=
      (Key.with_state (k := k.reported p) is).symm
    have settles : (k.reported p).settle sheets = settled := Key.reported_settle p sheets
    refine ⟨fun is => ?_, fun other faulty => ?_, fun other sound moves => ?_, fun sound rests => ?_⟩
    · exact (Key.applyEntry_of_fault is).trans (same _ is)
    · subst faulty
      exact Key.applyEntry_faulted other
    · subst sound moves
      exact (Key.applyEntry_moving other).trans (if_ctx_congr Iff.rfl (same _) fun _ => rfl)
    · subst sound rests
      have rest (other : k.state ≠ .fault) : out = (k.reported p).atRest p tolerance sheets :=
        Key.applyEntry_atRest other
      refine ⟨fun is => ?_, fun is => ?_, fun is none => ?_, fun c computed is => ?_⟩
      · rw [rest (by simp [is]), Key.atRest_moving (by exact is)]
        refine ⟨fun sent toward => ⟨fun far few => ?_, fun far many => ?_, fun c computed arrived => ?_⟩,
          fun unsent => ⟨fun none => ?_, fun c computed => ?_⟩⟩
        · exact (Key.endMotion_short (k := k.reported p) toward far).trans (if_pos few)
        · exact (Key.endMotion_short (k := k.reported p) toward far).trans (if_neg (not_lt.2 many))
        · rw [Key.endMotion_arrived (k := k.reported p) toward arrived computed, settles]
          exact ⟨fun h => if_pos h, fun h => if_neg h⟩
        · exact Key.endMotion_none (k := k.reported p) unsent none
        · rw [Key.endMotion_unsent (k := k.reported p) unsent computed, settles]
          exact ⟨fun h => if_pos h, fun h => if_neg h⟩
      · rw [rest (by simp [is]), Key.atRest_held (by exact is)]
        exact same _ is
      · rw [rest (by simp [is]), Key.atRest_unknown_none (by exact is) (by exact none)]
        rfl
      · rw [rest (by rintro e; simp [e] at is), Key.atRest_judged (k := k.reported p) computed is]
        exact ⟨fun h => (Key.rejudge_near (k := k.reported p) sheets computed rfl h).trans settles,
          fun h => Key.rejudge_far (k := k.reported p) sheets computed rfl h⟩
  · intro out
    refine ⟨Key.recomputeOutcome_stays tolerance sheets onLine, fun is none => ?_, fun is on => ?_,
      fun c p computed reported is => ?_⟩
    · show k.recomputeOutcome tolerance sheets onLine = k
      rw [Key.recomputeOutcome, is, none]
      rfl
    · show k.recomputeOutcome tolerance sheets onLine = k
      rw [Key.recomputeOutcome, is, on]
      rfl
    · have judged : out = k.rejudge tolerance sheets := Key.recomputeOutcome_judged tolerance sheets computed is
      rw [judged]
      exact ⟨fun h => Key.rejudge_near sheets computed reported h, fun h => Key.rejudge_far sheets computed reported h⟩
  · rw [Key.recomputeOutcome, pending]
    rfl
  · simp only [State.onLine_iff, Line.transaction?_eq_some]

end Sys2Proof.Machine
end

section
/-! PROOFS. The seven stages of a key (R61, R66 to R74). -/

namespace Sys2Proof.Machine

/-! ### A rounded quotient of a value that is not negative -/

theorem roundUp_bounds {d : Nat} (hd : 0 < d) {n m : Int} (low : 0 ≤ n) (high : n ≤ d * m) :
    0 ≤ roundUp n d ∧ roundUp n d ≤ m := by
  have pos : (0 : Int) < 2 * d := by omega
  refine ⟨Int.ediv_nonneg (by omega) pos.le, ?_⟩
  rw [roundUp, ← Int.lt_add_one_iff, Int.ediv_lt_iff_lt_mul pos]
  linarith

/-- The number that is stored is the quotient rounded (R61). -/
theorem roundUp_toNat {d : Nat} (hd : 0 < d) {n : Int} (low : 0 ≤ n) :
    2 * d * ((roundUp n d).toNat : Int) ≤ 2 * n + d ∧ 2 * n + d < 2 * d * (((roundUp n d).toNat : Int) + 1) := by
  have nonneg : 0 ≤ roundUp n d := Int.ediv_nonneg (by omega) (by omega)
  rw [Int.toNat_of_nonneg nonneg]
  exact (roundUp_eq_iff hd n _).1 rfl

/-! ### Stage 1 (R66, R67) -/

/-- The zones' part of the sum, zone by zone. -/
theorem zoneSum_eq (left width pitch : Int) : ∀ (at' : Int) (zones : List Nat),
    zoneSum left width pitch at' zones = ((List.range zones.length).map fun z => (zones.getD z 0 : Int) *
      max 0 (min (left + width) (at' + (z + 1) * pitch) - max left (at' + z * pitch))).sum
  | _, [] => rfl
  | at', v :: vs => by
    rw [zoneSum, zoneSum_eq left width pitch (at' + pitch) vs, List.length_cons, List.range_succ_eq_map, List.map_cons,
      List.sum_cons, List.map_map]
    congr 1
    · simp [overlap]
    · refine congrArg List.sum (List.map_congr_left fun z _ => ?_)
      have next : at' + pitch + (z + 1) * pitch = at' + ((z + 1 : Nat) + 1) * pitch := by push_cast; ring
      have this' : at' + pitch + z * pitch = at' + (z + 1 : Nat) * pitch := by push_cast; ring
      rw [next, this']
      rfl

/-- The overlap with two adjacent intervals is that with both together. -/
theorem overlap_adjacent (a aw b : Int) {w v : Int} (hw : 0 ≤ w) (hv : 0 ≤ v) :
    overlap a aw b w + overlap a aw (b + w) v = overlap a aw b (w + v) := by
  unfold overlap
  omega

theorem overlap_le (a b bw : Int) {aw : Int} (h : 0 ≤ aw) : overlap a aw b bw ≤ aw := by
  unfold overlap
  omega

theorem overlap_nonneg (a aw b bw : Int) : 0 ≤ overlap a aw b bw := le_max_left _ _

/-- Zone values up to 1000 give at most 1000 times the overlap of all the zones together. -/
theorem zoneSum_le (left width : Int) {pitch : Int} (hp : 0 ≤ pitch) : ∀ (at' : Int) (zones : List Nat),
    (∀ v ∈ zones, v ≤ 1000) →
    0 ≤ zoneSum left width pitch at' zones ∧
      zoneSum left width pitch at' zones ≤ 1000 * overlap left width at' (zones.length * pitch)
  | at', [], _ => ⟨le_rfl, mul_nonneg (by decide) (overlap_nonneg _ _ _ _)⟩
  | at', v :: vs, small => by
    obtain ⟨low, high⟩ := zoneSum_le left width hp (at' + pitch) vs fun x mem => small x (List.mem_cons_of_mem v mem)
    have value : (v : Int) ≤ 1000 := by exact_mod_cast small v List.mem_cons_self
    have here := overlap_nonneg left width at' pitch
    have first : (v : Int) * overlap left width at' pitch ≤ 1000 * overlap left width at' pitch :=
      mul_le_mul_of_nonneg_right value here
    have both := overlap_adjacent left width at' hp (v := vs.length * pitch) (mul_nonneg (Int.natCast_nonneg _) hp)
    have length : ((v :: vs).length : Int) * pitch = pitch + vs.length * pitch := by
      rw [List.length_cons]
      push_cast
      ring
    rw [zoneSum, length, ← both]
    exact ⟨add_nonneg (mul_nonneg (Int.natCast_nonneg v) here) low, by linarith⟩

/-! ### Stage 3 (R69) -/

/-- At a point's own Coverage the curve gives its Opening (R69). -/
theorem interpolate_point : ∀ {points : List Point}, points.Pairwise (fun p q => p.coverage < q.coverage) →
    ∀ p ∈ points, interpolate p.coverage points = p.opening
  | [], _, _, mem => nomatch mem
  | [_], _, _, mem => by
    obtain rfl := List.mem_singleton.1 mem
    rfl
  | first :: second :: rest, rising, p, mem => by
    obtain ⟨above, rising⟩ := List.pairwise_cons.1 rising
    rw [interpolate]
    rcases List.mem_cons.1 mem with rfl | later
    · exact if_pos le_rfl
    · have next : second.coverage ≤ p.coverage := by
        rcases List.mem_cons.1 later with rfl | further
        · exact le_rfl
        · exact (List.rel_of_pairwise_cons rising further).le
      rw [if_neg (not_le.2 (above p later)), if_neg (not_lt.2 next)]
      exact interpolate_point rising p later

/-- Between two points the curve is interpolated (R69). -/
theorem interpolate_between : ∀ {points : List Point}, points.Pairwise (fun p q => p.coverage < q.coverage) →
    ∀ {m c : Nat} {p q : Point}, points[m]? = some p → points[m + 1]? = some q → p.coverage < c → c < q.coverage →
      interpolate c points = roundUp
        (p.opening * ((q.coverage : Int) - p.coverage) + ((q.opening : Int) - p.opening) * ((c : Int) - p.coverage))
        (q.coverage - p.coverage)
  | [], _, _, _, _, _, at', _, _, _ => nomatch at'
  | [_], _, m, _, _, _, _, next, _, _ => by simp at next
  | first :: second :: rest, _, 0, c, p, q, at', next, low, high => by
    obtain rfl : first = p := by simpa using at'
    obtain rfl : second = q := by simpa using next
    rw [interpolate, if_neg (not_le.2 low), if_pos high]
  | first :: second :: rest, rising, m + 1, c, p, q, at', next, low, high => by
    obtain ⟨above, rising'⟩ := List.pairwise_cons.1 rising
    have mem : p ∈ second :: rest := List.mem_of_getElem? at'
    have second_le : second.coverage ≤ p.coverage := by
      rcases List.mem_cons.1 mem with rfl | further
      · exact le_rfl
      · exact (List.rel_of_pairwise_cons rising' further).le
    rw [interpolate, if_neg (not_le.2 ((above p mem).trans low)), if_neg (not_lt.2 (second_le.trans low.le))]
    exact interpolate_between rising' at' next low high

/-- The curve stays within its Openings. -/
theorem interpolate_bounds {top c : Nat} : ∀ {points : List Point}, (∀ p ∈ points, p.opening ≤ top) →
    0 ≤ interpolate c points ∧ interpolate c points ≤ top
  | [], _ => ⟨le_rfl, Int.natCast_nonneg top⟩
  | [p], small => ⟨Int.natCast_nonneg _, Int.ofNat_le.2 (small p List.mem_cons_self)⟩
  | p :: q :: ps, small => by
    have hp : (p.opening : Int) ≤ top := Int.ofNat_le.2 (small p List.mem_cons_self)
    have hq : (q.opening : Int) ≤ top := Int.ofNat_le.2 (small q (List.mem_cons_of_mem p List.mem_cons_self))
    rw [interpolate]
    split
    · exact ⟨Int.natCast_nonneg _, hp⟩
    · rename_i above
      split
      · rename_i below
        have span : ((q.coverage - p.coverage : Nat) : Int) = (q.coverage : Int) - p.coverage := by omega
        have parts : (p.opening : Int) * ((q.coverage : Int) - p.coverage) +
            ((q.opening : Int) - p.opening) * ((c : Int) - p.coverage) =
            p.opening * ((q.coverage : Int) - c) + q.opening * ((c : Int) - p.coverage) := by ring
        have before : (0 : Int) ≤ (q.coverage : Int) - c := by omega
        have after : (0 : Int) ≤ (c : Int) - p.coverage := by omega
        refine roundUp_bounds (by omega) ?_ ?_
        · rw [parts]
          exact add_nonneg (mul_nonneg (Int.natCast_nonneg _) before) (mul_nonneg (Int.natCast_nonneg _) after)
        · rw [parts, span]
          linarith [mul_le_mul_of_nonneg_right hp before, mul_le_mul_of_nonneg_right hq after]
      · exact interpolate_bounds fun x mem => small x (List.mem_cons_of_mem p mem)

/-! ### Stages 6 and 7 (R73, R74) -/

theorem insideSheet_iff {u : Setup} {b : ProfileBody} {k : Nat} : insideSheet u b k = true ↔
    keyLeft u k < b.sheetRight ∧ (b.sheetLeft : Int) < keyLeft u k + u.keyPitch := by
  rw [insideSheet, Bool.and_eq_true, decide_eq_true_eq, decide_eq_true_eq]

theorem clampTarget_outside (minOpening : Nat) (r : Int) : clampTarget false minOpening r = (0, .closed) := rfl

theorem clampTarget_high {minOpening : Nat} {r : Int} (high : 4000 < r) :
    clampTarget true minOpening r = (4000, .high) := if_pos high

theorem clampTarget_low {minOpening : Nat} {r : Int} (small : minOpening ≤ 4000) (low : r < minOpening) :
    clampTarget true minOpening r = (minOpening, .low) :=
  (if_neg (not_lt.2 (low.le.trans (Int.ofNat_le.2 small)))).trans (if_pos low)

theorem clampTarget_within {minOpening : Nat} {r : Int} (low : minOpening ≤ r) (high : r ≤ 4000) :
    clampTarget true minOpening r = (r.toNat, .none) := (if_neg (not_lt.2 high)).trans (if_neg (not_lt.2 low))

/-- Settles O51. -/
theorem stagesOfAKey : Obligations.StagesOfAKey := by
  intro u b curve k inRanges body loaded out rounded left right lapped weighted
  obtain ⟨-, ⟨pitch, -⟩, -, minOpening, -, -, -, -, -, -, -, -, ⟨sweep, -⟩, -⟩ := inRanges
  obtain ⟨-, -, ⟨zonePitch, -⟩, -, -, -, length, values, -, -⟩ := body
  obtain ⟨-, -, -, -, rising, openings⟩ := loaded
  have sum : weighted = zoneSum (keyLeft u k.index) u.keyPitch b.zonePitch b.zoneOrigin b.zones := by
    rw [zoneSum_eq, length]
    rfl
  obtain ⟨low, high⟩ := zoneSum_le (keyLeft u k.index) u.keyPitch (pitch := b.zonePitch) (by omega) b.zoneOrigin b.zones
    values
  rw [← sum] at low high
  have whole : weighted ≤ u.keyPitch * 1000 := by
    have lap := overlap_le (keyLeft u k.index) b.zoneOrigin (b.zones.length * b.zonePitch) (aw := u.keyPitch) (by omega)
    linarith
  have coverage : (out.coverage : Nat) = (roundUp weighted u.keyPitch).toNat := by rw [sum]; rfl
  obtain ⟨opening_nonneg, opening_le⟩ := interpolate_bounds (c := out.coverage) openings
  have opening : (out.curveOpening : Int) = interpolate out.coverage curve.points := Int.toNat_of_nonneg opening_nonneg
  refine ⟨?_, ?_, fun p mem same => ?_, fun m p q at' next below above => ?_, ?_,
    sweptOpening out.curveOpening curve.refSweep u.sweep,
    trimmedOpening (sweptOpening out.curveOpening curve.refSweep u.sweep) u.towerTrim, ?_, ?_, ?_⟩
  · rw [coverage]
    exact roundUp_toNat (by omega) low
  · rw [coverage, Int.toNat_le]
    exact (roundUp_bounds (by omega) low whole).2
  · have value := interpolate_point rising p mem
    rw [same, ← opening] at value
    exact_mod_cast value
  · have value := interpolate_between rising at' next below above
    have span : ((q.coverage - p.coverage : Nat) : Int) = (q.coverage : Int) - p.coverage := by omega
    have quotient := (roundUp_eq_iff (d := q.coverage - p.coverage) (by omega) _ _).1 value.symm
    rw [← opening, span] at quotient
    exact quotient
  · exact_mod_cast opening.trans_le opening_le
  · exact roundUp_toNat (by omega) (mul_nonneg (Int.natCast_nonneg _) (Int.natCast_nonneg _))
  · exact roundUp_toNat (d := 100) (by decide) (mul_nonneg (Int.natCast_nonneg _) (Int.natCast_nonneg _))
  · intro raw inside
    have clamped : (out.target, out.saturation) = clampTarget (insideSheet u b k.index) u.minOpening raw := rfl
    have sheet : insideSheet u b k.index = true ↔ inside := insideSheet_iff
    refine ⟨fun outside => ?_, fun is tall => ?_, fun is under => ?_, fun is above below => ?_⟩
    · rw [Bool.eq_false_iff.2 fun h => outside (sheet.1 h), clampTarget_outside] at clamped
      exact Prod.mk.inj clamped
    · rw [sheet.2 is, clampTarget_high tall] at clamped
      exact Prod.mk.inj clamped
    · rw [sheet.2 is, clampTarget_low (by omega) under] at clamped
      exact Prod.mk.inj clamped
    · rw [sheet.2 is, clampTarget_within above below] at clamped
      obtain ⟨target, saturation⟩ := Prod.mk.inj clamped
      exact ⟨by rw [target, Int.toNat_of_nonneg (by omega)], saturation⟩

end Sys2Proof.Machine
end

section
/-! PROOFS. TOWER_SETUP: the payload read back, the tower replaced, the Poller's part (R22 to R26, R152, R157). -/

namespace Sys2Proof.Machine

/-! ### The REPLY of an event that raises occurrences -/

/-- The end of an event whose telegram was answered: the REPLY, then notices, and nothing else (R11, R183). -/
theorem State.replied_judged (u : State) (t : Telegram) (r : Result) (data : List Byte) :
    ∃ notices : List Telegram, (∀ m ∈ notices, m.kind = 0x82) ∧ (u.replied t r data).judgeNotices = { u with
      console := { u.console with
        reservedHandler := false,
        tx := u.console.tx ++ makeTelegram 0x01 0x08 0x80 (t.kind :: r.code :: data) :: notices },
      handler := { u.handler with hand := none }, attention := { u.attention with due := [] } } := by
  obtain ⟨notices, judged, kinds⟩ := (u.replied t r data).judgeNotices_cases
  refine ⟨notices, fun m mem => ?_, ?_⟩
  · obtain ⟨i, p, o, rfl⟩ := kinds m mem
    rfl
  · rw [judged]
    simp [State.replied, State.answered]

/-- The command of a kind: its rules' changes, the REPLY, and then the notices. -/
theorem management_replied {s : State} {k : Kind} {t : Telegram} (h : s.holds k t)
    {rules : State → List Byte → Answer} {u : State} {r : Result} {data : List Byte}
    (e : rules s t.payload = { state := u, result := r, data := data }) :
    management k rules s = .next (u.replied t r data).judgeNotices := by
  rw [management, event_released h.1.1, executeHeld_of_holds h, e]
  rfl

/-! ### The payload of a TOWER_SETUP read back (Table 2-1) -/

theorem byteOf_toNat_small {n : Nat} (h : n < 256) : (byteOf n).toNat = n := by
  rw [byteOf_toNat, Nat.mod_eq_of_lt h]

theorem setupBytes_read (i : TowerIx) {u : Setup} (ranges : u.inRanges) :
    let p := byteOf i.val :: setupBytes u
    byteAt p 0 = i.val ∧ byteAt p 1 = u.enabled.toNat ∧ byteAt p 2 = u.keyCount ∧ u16At p 3 = u.keyPitch ∧
      s16At p 5 = u.plateOffset ∧ byteAt p 7 = u.curveId.val ∧ u16At p 8 = u.minOpening ∧ byteAt p 10 = u.tolerance ∧
      byteAt p 11 = u.replyWindow ∧ byteAt p 12 = u.motionLimit ∧ u16At p 13 = u.gain ∧ byteAt p 15 = u.deadBand ∧
      u16At p 16 = u.stepLimit ∧ u16At p 18 = u.corrLimit ∧ byteAt p 20 = u.lagSheets ∧ byteAt p 21 = u.sweep ∧
      byteAt p 22 = u.towerTrim := by
  intro p
  obtain ⟨keyCount, keyPitch, plateOffset, minOpening, tolerance, replyWindow, motionLimit, gain, deadBand, stepLimit,
    corrLimit, lagSheets, sweep, towerTrim⟩ := ranges
  have tower := i.isLt
  have curve := u.curveId.isLt
  refine ⟨byteOf_toNat_small (by omega), ?_, byteOf_toNat_small (by omega), u16_be16 (by omega),
    s16_be16s (by omega) (by omega), byteOf_toNat_small (by omega), u16_be16 (by omega), byteOf_toNat_small (by omega),
    byteOf_toNat_small (by omega), byteOf_toNat_small (by omega), u16_be16 (by omega), byteOf_toNat_small (by omega),
    u16_be16 (by omega), u16_be16 (by omega), byteOf_toNat_small (by omega), byteOf_toNat_small (by omega),
    byteOf_toNat_small (by omega)⟩
  show (flagByte u.enabled).toNat = _
  cases u.enabled <;> rfl

/-- The setup that the rules read is the one that was sent. -/
theorem setupOf_setupBytes (i : TowerIx) {u : Setup} (ranges : u.inRanges) :
    setupOf (byteOf i.val :: setupBytes u) = u := by
  obtain ⟨-, enabled, f2, f3, f4, curve, f6, f7, f8, f9, f10, f11, f12, f13, f14, f15, f16⟩ := setupBytes_read i ranges
  have on : (u.enabled.toNat == 1) = u.enabled := by cases u.enabled <;> rfl
  unfold setupOf
  rw [enabled, f2, f3, f4, curve, f6, f7, f8, f9, f10, f11, f12, f13, f14, f15, f16, on, curveOf_val]
  rfl

theorem setupChecks_setupBytes {s : State} (i : TowerIx) {u : Setup} (ranges : u.inRanges)
    (names : u.enabled = true → (s.curve u.curveId).isSome = true) :
    firstFailing (s.setupChecks (byteOf i.val :: setupBytes u)) = none := by
  obtain ⟨tower, enabled, f2, f3, f4, curve, f6, f7, f8, f9, f10, f11, f12, f13, f14, f15, f16⟩ := setupBytes_read i ranges
  obtain ⟨keyCount, keyPitch, plateOffset, minOpening, tolerance, replyWindow, motionLimit, gain, deadBand, stepLimit,
    corrLimit, lagSheets, sweep, towerTrim⟩ := ranges
  have named : s.curveIdOk u.enabled.toNat u.curveId.val = true := by
    unfold State.curveIdOk
    rw [curveOf_val]
    cases on : u.enabled with
    | false => rfl
    | true => exact names on
  have flag : u.enabled.toNat ≤ 1 := by cases u.enabled <;> decide
  refine firstFailing_eq_none.2 ?_
  simp only [State.setupChecks, List.forall_mem_cons, inRange_iff, inRangeInt_iff, tower, enabled, f2, f3, f4, curve, f6,
    f7, f8, f9, f10, f11, f12, f13, f14, f15, f16, Nat.zero_le, true_and]
  exact ⟨Nat.le_of_lt_succ i.isLt, flag, keyCount, keyPitch, plateOffset, named, minOpening, tolerance, replyWindow,
    motionLimit, gain, deadBand, stepLimit, corrLimit, lagSheets, sweep, towerTrim, nofun⟩

theorem towerSetupRules_setupBytes {s : State} (i : TowerIx) {u : Setup} (ranges : u.inRanges)
    (names : u.enabled = true → (s.curve u.curveId).isSome = true) :
    towerSetupRules s (byteOf i.val :: setupBytes u) =
      { state := ((s.withTower i ((s.tower i).rebuilt u)).derivePhase i).pollerAfterSetup u.enabled, result := .ok,
        data := [byteOf i.val, byteOf ((s.tower i).rebuilt u).generation] } := by
  have tower : towerOf (byteAt (byteOf i.val :: setupBytes u) 0) = some i :=
    (congrArg towerOf (setupBytes_read i ranges).1).trans (towerOf_val i)
  simp only [towerSetupRules, setupChecks_setupBytes i ranges names, tower, setupOf_setupBytes i ranges]

/-! ### The tower replaced (R23, R24, R26) -/

/-- A tower after a setup is OFF or IDLE: its profiles are EMPTY (R26, R29). -/
theorem Tower.rebuilt_phase (w : Tower) (u : Setup) :
    (w.rebuilt u).derivedPhase = if u.enabled then .idle else .off := by
  cases on : u.enabled with
  | false => exact if_pos on
  | true => exact (if_neg (by rw [show (w.rebuilt u).setup.enabled = true from on]; decide)).trans (if_pos rfl)

theorem State.derivePhase_rebuilt (s : State) (i : TowerIx) (u : Setup) :
    (s.withTower i ((s.tower i).rebuilt u)).derivePhase i = s.withTower i ((s.tower i).rebuilt u).derived := by
  have other : ¬ (((s.tower i).rebuilt u).derivedPhase = .ready ∧ ((s.tower i).rebuilt u).phase ≠ .ready) := by
    rw [Tower.rebuilt_phase]
    cases u.enabled <;> exact fun h => nomatch h.1
  rw [State.derivePhase_eq, State.withTower_tower_self, if_neg other, State.raiseAll_nil]
  simp only [State.withTower, Vector.set_set]
  rfl

/-- The tower that a setup leaves, record by record (R24). -/
theorem Tower.rebuilt_derived (w : Tower) (u : Setup) : (w.rebuilt u).derived =
    let generation := (w.generation + 1) % 256
    ⟨u, generation, if u.enabled then .idle else .off, none, none, none,
      if u.enabled then (List.range' 1 u.keyCount).map fun k => ⟨k, none, 0, 0, none, none, .unknown, 0, none⟩ else [],
      if u.enabled then
        (allGroups.filter fun g => 12 * g.val < u.keyCount).map
          fun g => ⟨g, .present, 0, false, false, none, generation, 0⟩
      else []⟩ := by
  have keys : freshKeys u.keyCount = (List.range' 1 u.keyCount).map Key.fresh := by
    rw [freshKeys, List.range'_eq_map_range, List.map_map]
    exact List.map_congr_left fun n _ => congrArg Key.fresh (Nat.add_comm n 1)
  have groups : (allGroups.filter fun g => g.val < groupCount u.keyCount) =
      allGroups.filter fun g => 12 * g.val < u.keyCount := by
    refine List.filter_congr fun g _ => decide_eq_decide.2 ?_
    show g.val < (u.keyCount + 11) / 12 ↔ _
    omega
  unfold Tower.derived
  rw [Tower.rebuilt_phase]
  simp only [Tower.rebuilt, freshGroups, keys, groups]
  rfl

/-! ### The Poller's part (R152, R157) -/

/-- What the Poller's part of a setup leaves of everything but the Poller and SWEEP_OVERRUN. -/
theorem State.asked_frame {v passed : State} (p : Poller) (is : passed = v.withPoller p) (enabled : Bool) :
    let asked := if enabled then passed.trigger else passed
    asked.towers = v.towers ∧ asked.bare = v.bare.withPoller asked.poller ∧
      ∀ j, j ≠ srcSweepOverrun ∨ enabled = false → asked.source j = v.source j := by
  subst is
  cases enabled
  · exact ⟨rfl, rfl, fun _ _ => rfl⟩
  · refine ⟨State.trigger_towers _, State.trigger_bare _, fun j other => ?_⟩
    have ne : j ≠ srcSweepOverrun := other.resolve_right nofun
    show (v.withPoller p).trigger.source j = _
    rcases (v.withPoller p).trigger_cases with ⟨q, e⟩ | e <;> rw [e]
    · rfl
    · rw [State.raise_source, if_neg ne]
      rfl

/-- Settles O16. -/
theorem towerSetupAccepted : Obligations.TowerSetupAccepted := by
  intro s passed t i u held ranges names payload generation w p v current ended passing asked
  have replaced : s.withTower i ((s.tower i).rebuilt u).derived = v := congrArg (s.withTower i) (Tower.rebuilt_derived _ u)
  have stale {e : PollEntry} (other : ¬ current e) : v.stale e = true := by
    rw [← Bool.not_eq_false, State.not_stale_iff]
    exact other
  have passes : (if v.poller.roundActive && !v.poller.inHand then v.passStale else v) = passed := by
    rcases passing with ⟨busy, is⟩ | ⟨active, free, passing⟩
    · rw [is]
      refine if_neg ?_
      rw [Bool.and_eq_true, Bool.not_eq_true']
      exact fun h => busy.elim (fun e => absurd h.1 (by rw [show v.poller.roundActive = false from e]; decide))
        fun e => absurd h.2 (by rw [show v.poller.inHand = true from e]; decide)
    · have both : (v.poller.roundActive && !v.poller.inHand) = true := by
        rw [show v.poller.roundActive = true from active, show v.poller.inHand = false from free]
        rfl
      rw [if_pos both]
      rcases passing with ⟨n, e, past, entry, is, between, rest⟩ | ⟨none, rest⟩ <;> rw [rest]
      · exact State.passStale_rests (s := v) past entry (State.not_stale_iff.2 is)
          fun m x after below mem => stale (between m x after below mem)
      · rw [State.passStale_ends (s := v) fun m x after mem => stale (none m x after mem)]
        by_cases pending : p.roundPending = true
        · exact (State.endRound_latched (s := v) pending).trans (if_pos pending).symm
        · exact (State.endRound_idle (s := v) (Bool.eq_false_iff.2 pending)).trans (if_neg pending).symm
  have rules : towerSetupRules s t.payload =
      { state := asked, result := .ok, data := [byteOf i.val, byteOf generation] } := by
    rw [payload, towerSetupRules_setupBytes i ranges names, State.derivePhase_rebuilt, replaced]
    unfold State.pollerAfterSetup
    simp only [passes]
    rfl
  obtain ⟨q, onPoller⟩ : ∃ q, passed = v.withPoller q := by
    rw [← passes]
    split
    · exact ⟨_, v.passStale_eq⟩
    · exact ⟨v.poller, rfl⟩
  obtain ⟨towers, bare, sources⟩ := State.asked_frame q onPoller u.enabled
  obtain ⟨nreset, console, handler, curves, sheets, drive, -, press, pending⟩ := State.bare_eq_iff (t := v.withPoller asked.poller).1 bare
  obtain ⟨notices, kinds, judged⟩ := asked.replied_judged t .ok [byteOf i.val, byteOf generation]
  have tower (j : TowerIx) : asked.tower j = if j = i then w else s.tower j := by
    refine (congrArg (·[j]) towers : asked.towers[j] = v.towers[j]).trans ?_
    exact State.withTower_tower s i j w
  have kind : t.kind = 0x10 := held.2.2.1
  refine ⟨_, notices, management_replied held rules, rfl, ?_⟩
  rw [judged]
  refine ⟨(tower i).trans (if_pos rfl), fun j ne => (tower j).trans (if_neg ne), ?_, kinds, ?_, rfl, sources, rfl, ?_⟩
  · show ({ asked.console with
      reservedHandler := false,
      tx := asked.console.tx ++ makeTelegram 0x01 0x08 0x80 (t.kind :: _) :: notices } : ConsolePort) = _
    rw [console, kind]
    rfl
  · show ({ asked.handler with hand := none } : Handler) = _
    rw [handler]
    rfl
  · show (asked.nreset, asked.curves, asked.sheetCount, asked.drive, asked.press, asked.pending) = _
    rw [nreset, curves, sheets, drive, press, pending]
    rfl

end Sys2Proof.Machine
end

section
/-! PROOFS. CURVE_LOAD, and what refuses a TOWER_SETUP and a CURVE_LOAD (R22, R31 to R35, R77). -/

namespace Sys2Proof.Machine

/-! ### A telegram that reworks several towers -/

theorem State.raiseAll_source_other {os : List (SourceIx × Detail)} {j : SourceIx} (other : ∀ o ∈ os, o.1 ≠ j) (s : State) :
    (s.raiseAll os).source j = s.source j := by
  rw [State.raiseAll_source, List.filter_eq_nil_iff.2 fun o mem => by simpa using other o mem]
  rfl

/-- The TOWER_READY occurrences of the towers of a test, in ascending order, when the other towers stay. -/
theorem readyOccurrences_filter {before after : TowerIx → Tower} {q : TowerIx → Bool}
    (stays : ∀ j, q j = false → after j = before j) : readyOccurrences before after (allTowers.filter q) =
      ((List.finRange 12).filter fun j => (after j).phase = .ready ∧ (before j).phase ≠ .ready).map
        fun j => (srcTowerReady, Detail.tower j) := by
  have order : allTowers = List.finRange 12 := rfl
  unfold readyOccurrences
  rw [order, List.filter_filter]
  refine congrArg _ (List.filter_congr fun j _ => ?_)
  cases named : q j with
  | true => rw [Bool.and_true]
  | false =>
    rw [Bool.and_false, stays j named]
    exact (decide_eq_false fun h => h.2 h.1).symm

/-- The state after a telegram whose rules rework the towers of a test in ascending order, TOWER_READY judged after the
REPLY (R11, R31). -/
theorem ReworksTower.replied {f : State → TowerIx → State} {new : State → TowerIx → Tower}
    (h : ReworksTower f (fun _ => true) new) (q : TowerIx → Bool) (s : State) (t : Telegram) (r : Result) (data : List Byte) :
    ∃ n notices, (((allTowers.filter q).foldl f s).replied t r data).judgeNotices = n ∧
      (∀ j, n.tower j = if q j = true then (new s j).derived else s.tower j) ∧
      (let entered := (List.finRange 12).filter fun j => (n.tower j).phase = .ready ∧ (s.tower j).phase ≠ .ready
      n = ((({ s with towers := n.towers } : State).replied t r data).raiseAll
        (entered.map fun j => (srcTowerReady, Detail.tower j))).judgeNotices) ∧
      n.console = { s.console with
        reservedHandler := false,
        tx := s.console.tx ++ makeTelegram 0x01 0x08 0x80 (t.kind :: r.code :: data) :: notices } ∧
      (∀ m ∈ notices, m.kind = 0x82) ∧ n.handler = { s.handler with hand := none } ∧
      (∀ j, j ≠ srcTowerReady → n.source j = s.source j) ∧ n.attention.due = [] ∧
      (n.nreset, n.curves, n.sheetCount, n.drive, n.poller, n.press, n.pending) =
        (s.nreset, s.curves, s.sheetCount, s.drive, s.poller, s.press, s.pending) := by
  have reworked (j : TowerIx) : s.reworked (fun _ => true) new (allTowers.filter q) j =
      if q j = true then (new s j).derived else s.tower j :=
    if_congr (by rw [List.mem_filter, and_iff_right (mem_allTowers j), and_iff_left rfl]) rfl rfl
  obtain ⟨v, hv⟩ : ∃ v, v = s.reworked (fun _ => true) new (allTowers.filter q) := ⟨_, rfl⟩
  obtain ⟨os, hos⟩ : ∃ os, os = readyOccurrences s.tower v (allTowers.filter q) := ⟨_, rfl⟩
  have swept := h.foldl (allTowers.filter q) (allTowers_filter_nodup q) s
  rw [← hv, ← hos] at swept
  obtain ⟨notices, kinds, judged⟩ := ((s.withTowers v).raiseAll os).replied_judged t r data
  obtain ⟨nreset, console, handler, curves, sheets, drive, poller, press, pending⟩ :=
    State.bare_eq_iff.1 ((s.withTowers v).raiseAll_bare os)
  have towers : ((s.withTowers v).raiseAll os).towers = (s.withTowers v).towers := State.raiseAll_towers _ _
  have sources (j : SourceIx) (ne : j ≠ srcTowerReady) : ((s.withTowers v).raiseAll os).source j = s.source j := by
    refine State.raiseAll_source_other (fun o mem => ?_) (s.withTowers v)
    rw [hos] at mem
    obtain ⟨i, -, rfl⟩ := List.mem_map.1 mem
    exact ne.symm
  have ran : (((s.withTowers v).raiseAll os).replied t r data).judgeNotices =
      (((s.withTowers v).replied t r data).raiseAll os).judgeNotices :=
    congrArg State.judgeNotices (State.raiseAll_answered os (s.withTowers v) 0x80 t r data)
  generalize (s.withTowers v).raiseAll os = u at *
  have tower (j : TowerIx) : u.tower j = v j := by
    refine (congrArg (·[j]) towers : u.towers[j] = (s.withTowers v).towers[j]).trans ?_
    exact s.withTowers_tower v j
  refine ⟨(u.replied t r data).judgeNotices, notices, by rw [swept], fun j => ?_, ?_, ?_, kinds, ?_, fun j ne => ?_, ?_, ?_⟩
  · rw [State.judgeNotices_tower, ← reworked, ← hv]
    exact tower j
  · intro entered
    have occurrences : entered.map (fun j => (srcTowerReady, Detail.tower j)) = os := by
      rw [hos, readyOccurrences_filter fun j out => by rw [hv, reworked, if_neg (by rw [out]; decide)]]
      refine congrArg _ (List.filter_congr fun j _ => ?_)
      rw [State.judgeNotices_tower]
      have same : (u.replied t r data).tower j = v j := tower j
      rw [same]
    have kept : (u.replied t r data).judgeNotices.towers = (s.withTowers v).towers :=
      (State.judgeNotices_towers _).trans towers
    rw [occurrences, kept, ran]
    rfl
  · rw [judged]
    show ({ u.console with
      reservedHandler := false,
      tx := u.console.tx ++ makeTelegram 0x01 0x08 0x80 (t.kind :: r.code :: data) :: notices } : ConsolePort) = _
    rw [console]
    rfl
  · rw [judged]
    show ({ u.handler with hand := none } : Handler) = _
    rw [handler]
    rfl
  · rw [State.judgeNotices_source]
    exact sources j ne
  · rw [judged]
  · rw [judged]
    show (u.nreset, u.curves, u.sheetCount, u.drive, u.poller, u.press, u.pending) = _
    rw [nreset, curves, sheets, drive, poller, press, pending]
    rfl

/-! ### The payload of a CURVE_LOAD (R32, R33) -/

theorem pointsOf_flatMap : ∀ {points : List Point}, (∀ p ∈ points, p.coverage < 65536 ∧ p.opening < 65536) →
    pointsOf (points.flatMap fun p => be16 p.coverage ++ be16 p.opening) = points
  | [], _ => rfl
  | p :: ps, small => by
    obtain ⟨coverage, opening⟩ := small p List.mem_cons_self
    have rest := pointsOf_flatMap fun q mem => small q (List.mem_cons_of_mem p mem)
    show (⟨u16 (byteOf (p.coverage / 256)) (byteOf p.coverage), u16 (byteOf (p.opening / 256)) (byteOf p.opening)⟩ : Point) ::
      pointsOf (ps.flatMap fun p => be16 p.coverage ++ be16 p.opening) = _
    rw [u16_be16 coverage, u16_be16 opening, rest]

/-- A curve in its ranges has no failing point (R33). -/
theorem badPoint_of_ok : ∀ {points : List Point} {index : Nat} {previous : Option Nat},
    (∀ p ∈ points.head?, p.Follows previous) → (∀ p ∈ points.getLast?, p.coverage = 1000) →
    points.Pairwise (fun p q => p.coverage < q.coverage) → (∀ p ∈ points, p.opening ≤ 4000) →
      badPoint index previous points = none
  | [], _, _, _, _, _, _ => rfl
  | p :: ps, index, previous, first, last, rising, openings => by
    obtain ⟨above, rising⟩ := List.pairwise_cons.1 rising
    refine badPoint_cons_eq_none.2 ⟨⟨first p rfl, fun alone => last p (by rw [alone]; rfl), openings p List.mem_cons_self⟩,
      badPoint_of_ok (fun q mem => above q (List.mem_of_head? mem)) (fun q mem => ?_) rising
        fun q mem => openings q (List.mem_cons_of_mem p mem)⟩
    exact last q (by rw [List.getLast?_cons]; simpa using by rw [show ps.getLast? = some q from mem]; rfl)

theorem towerMask_testBit (ts : List TowerIx) (j : TowerIx) : (towerMask ts).testBit j.val = ts.contains j := by
  have bits (f : TowerIx → Bool) : (allTowers.map f).getD j.val false = f j := by fin_cases j <;> rfl
  rw [towerMask, bitsOf_testBit, bits]

theorem towerMask_lt (ts : List TowerIx) : towerMask ts < 4096 :=
  (bitsOf_lt _).trans_eq (by rw [List.length_map]; rfl)

theorem State.curveUsers_contains (s : State) (i : CurveIx) (j : TowerIx) :
    (s.curveUsers i).contains j = ((s.tower j).setup.enabled && (s.tower j).setup.curveId == i) := by
  rw [Bool.eq_iff_iff, List.contains_iff_mem, State.mem_curveUsers, Bool.and_eq_true, beq_iff_eq]

/-- Settles O17. -/
theorem curveLoadAccepted : Obligations.CurveLoadAccepted := by
  intro s t i c held ok payload loaded
  obtain ⟨⟨low, high⟩, -, head, last, rising, openings⟩ := ok
  have small (p : Point) (mem : p ∈ c.points) : p.coverage < 65536 ∧ p.opening < 65536 := by
    have most : p.coverage ≤ 1000 := by
      obtain ⟨q, is, top⟩ := Option.map_eq_some_iff.1 last
      obtain ⟨front, points⟩ := List.getLast?_eq_some_iff.1 is
      rw [points] at mem rising
      rcases List.mem_append.1 mem with before | at'
      · exact ((List.pairwise_append.1 rising).2.2 p before q (List.mem_singleton_self q)).le.trans top.le
      · rw [List.mem_singleton.1 at', top]
    exact ⟨by omega, (openings p mem).trans_lt (by decide)⟩
  have points : pointsOf (t.payload.drop 2) = c.points := by
    rw [payload]
    exact pointsOf_flatMap small
  have good : badPoint 0 none c.points = none := by
    refine badPoint_of_ok (fun p mem => ?_) (fun p mem => ?_) rising openings
    · rw [show c.points.head? = some p from mem] at head
      exact Option.some.inj head
    · rw [show c.points.getLast? = some p from mem] at last
      exact Option.some.inj last
  have rules : curveLoadRules s t.payload =
      { state := (s.curveUsers i).foldl State.recomputeTower loaded, result := .ok,
        data := byteOf i.val :: be16 (towerMask (s.curveUsers i)) } := by
    have curve : curveOf (byteAt t.payload 0) = some i := by
      rw [payload]
      exact (congrArg curveOf (byteOf_toNat_small (by omega))).trans (curveOf_val i)
    have sweep : byteAt t.payload 1 = c.refSweep := by
      rw [payload]
      exact byteOf_toNat_small (by omega)
    simp only [curveLoadRules, curve, sweep, points, good, inRange_iff.2 ⟨low, high⟩, if_true]
    rfl
  obtain ⟨n, notices, ran, towers, whole, console, kinds, handler, sources, due, blocks⟩ :=
    State.recomputeTower_reworks.replied (fun j => (s.tower j).setup.enabled && (s.tower j).setup.curveId == i) loaded t .ok
      (byteOf i.val :: be16 (towerMask (s.curveUsers i)))
  have bit (j : TowerIx) : (towerMask (s.curveUsers i)).testBit j.val =
      ((s.tower j).setup.enabled && (s.tower j).setup.curveId == i) := by
    rw [towerMask_testBit, State.curveUsers_contains]
  obtain ⟨nreset, curves, sheets, drive, poller, press, pending⟩ : n.nreset = s.nreset ∧ n.curves = loaded.curves ∧
      n.sheetCount = s.sheetCount ∧ n.drive = s.drive ∧ n.poller = s.poller ∧ n.press = s.press ∧ n.pending = s.pending := by
    simpa only [Prod.mk.injEq] using blocks
  refine ⟨n, notices, towerMask (s.curveUsers i), (management_replied held rules).trans (congrArg Host.Outcome.next ran),
    curves, towerMask_lt _, whole, bit, fun j => ?_, ?_, kinds, handler, sources, due, ?_⟩
  · rw [bit]
    exact towers j
  · rw [console, show t.kind = 0x11 from held.2.2.1]
    rfl
  · rw [nreset, sheets, drive, poller, press, pending]

end Sys2Proof.Machine
end

section
/-! PROOFS. What refuses a TOWER_SETUP and a CURVE_LOAD (R22, R32, R33). -/

namespace Sys2Proof.Machine

/-! ### The first failing field of a setup -/

theorem firstFailing_at {checks : List (Nat × Bool)} {n m : Nat} (fails : checks[n]? = some (m, false))
    (before : ∀ j < n, ∀ c, checks[j]? = some c → c.2 = true) : firstFailing checks = some m := by
  have found : checks.find? (fun c => !c.2) = some (m, false) := by
    obtain ⟨below, is⟩ := List.getElem?_eq_some_iff.1 fails
    refine List.find?_eq_some_iff_getElem.2 ⟨rfl, n, below, is, fun j less => ?_⟩
    rw [before j less _ (List.getElem?_eq_getElem _)]
    decide
  rw [firstFailing, found]
  rfl

/-- A list of checks numbered from `k`, judged by the list of its results. -/
theorem firstFailing_numbered {results : List Bool} {n : Nat} (k : Nat) (fails : results[n]? = some false)
    (before : ∀ m < n, results[m]? = some true) :
    firstFailing ((results.zipIdx k).map fun c => (c.2, c.1)) = some (k + n) := by
  refine firstFailing_at (n := n) (by simp [fails]) fun j less c is => ?_
  have value : c = (k + j, true) := by simpa [before j less, eq_comm] using is
  rw [value]

/-- The checks of a setup, numbered, with the check of CurveId in its place (R22). -/
theorem State.setupChecks_eq (s : State) (p : List Byte) (fifth : Bool) : s.setupChecks p =
    ((([byteAt p 0 ≤ 11, byteAt p 1 ≤ 1, 8 ≤ byteAt p 2 && byteAt p 2 ≤ 48, 200 ≤ u16At p 3 && u16At p 3 ≤ 600,
      -2000 ≤ s16At p 5 && s16At p 5 ≤ 2000, fifth, u16At p 8 ≤ 400, 2 ≤ byteAt p 10 && byteAt p 10 ≤ 40,
      1 ≤ byteAt p 11 && byteAt p 11 ≤ 50, 1 ≤ byteAt p 12 && byteAt p 12 ≤ 30, u16At p 13 ≤ 400, byteAt p 15 ≤ 50,
      u16At p 16 ≤ 400, u16At p 18 ≤ 1000, byteAt p 20 ≤ 255, 20 ≤ byteAt p 21 && byteAt p 21 ≤ 100,
      50 ≤ byteAt p 22 && byteAt p 22 ≤ 200] : List Bool).set 5 (s.curveIdOk (byteAt p 1) (byteAt p 7))).zipIdx).map
      fun c => (c.2, c.1) := by
  simp only [State.setupChecks, inRange, inRangeInt, Nat.zero_le, decide_true, Bool.true_and]
  rfl

/-- The check of CurveId after a good Enabled byte (R22). -/
theorem State.curveIdOk_eq {s : State} {enabled curveId : Nat} (flag : enabled ≤ 1) :
    s.curveIdOk enabled curveId = match curveOf curveId with
      | some c => enabled == 0 || (s.curve c).isSome
      | none => false := by
  unfold State.curveIdOk
  have same : (enabled != 1) = (enabled == 0) := by
    rw [Bool.eq_iff_iff, bne_iff_ne, beq_iff_eq]
    omega
  rw [same] <;> rfl

/-- A list of results whose fifth is replaced by itself, or by another beyond the place looked at. -/
theorem set_results {results : List Bool} {fifth : Bool} {n : Nat} (fails : results[n]? = some false)
    (before : ∀ m < n, results[m]? = some true) (same : 5 ≤ n → results[5]? = some fifth) :
    (results.set 5 fifth)[n]? = some false ∧ ∀ m < n, (results.set 5 fifth)[m]? = some true := by
  by_cases late : 5 ≤ n
  · obtain ⟨inside, is⟩ := List.getElem?_eq_some_iff.1 (same late)
    have stays : results.set 5 fifth = results := by rw [← is, List.set_getElem_self]
    rw [stays]
    exact ⟨fails, before⟩
  · refine ⟨?_, fun m less => ?_⟩
    · rw [List.getElem?_set_ne (by omega)]
      exact fails
    · rw [List.getElem?_set_ne (by omega)]
      exact before m less

/-! ### The first failing point of a curve (R33) -/

/-- What R33 asks of a point with the points after it. -/
def Point.Good (p : Point) (previous : Option Nat) (rest : List Point) : Prop :=
  p.Follows previous ∧ (rest = [] → p.coverage = 1000) ∧ p.opening ≤ 4000

theorem badPoint_cons_good {index : Nat} {previous : Option Nat} {p : Point} {ps : List Point} (good : p.Good previous ps) :
    badPoint index previous (p :: ps) = badPoint (index + 1) (some p.coverage) ps := by
  obtain ⟨follows, last, opening⟩ := good
  have ending : (!ps.isEmpty || p.coverage == 1000) = true := by
    cases ps with
    | nil => simp [last rfl]
    | cons q qs => rfl
  have full : decide (p.opening ≤ Config.fullTravel) = true := decide_eq_true opening
  cases previous with
  | none =>
    have start : (p.coverage == 0) = true := beq_iff_eq.2 follows
    simp only [badPoint, start, ending, full, Bool.and_self, if_true]
  | some c =>
    have start : decide (c < p.coverage) = true := decide_eq_true follows
    simp only [badPoint, start, ending, full, Bool.and_self, if_true]

theorem badPoint_cons_bad {index : Nat} {previous : Option Nat} {p : Point} {ps : List Point} (bad : ¬ p.Good previous ps) :
    badPoint index previous (p :: ps) = some index := by
  have last : (!ps.isEmpty || p.coverage == 1000) = true ↔ (ps = [] → p.coverage = 1000) := by
    cases ps <;> simp
  cases previous with
  | none =>
    refine if_neg fun guard => bad ?_
    simp only [Bool.and_eq_true, last, and_assoc, beq_iff_eq, decide_eq_true_eq] at guard
    exact guard
  | some c =>
    refine if_neg fun guard => bad ?_
    simp only [Bool.and_eq_true, last, and_assoc, decide_eq_true_eq] at guard
    exact guard

/-- The point of a list at an index fails, given the Coverage before the list. -/
def PointFails (points : List Point) (previous : Option Nat) (m : Nat) : Prop :=
  ∃ p, points[m]? = some p ∧
    ¬ p.Good (if m = 0 then previous else (points[m - 1]?).map Point.coverage) (points.drop (m + 1))

theorem pointFails_succ {p : Point} {ps : List Point} {previous : Option Nat} {m : Nat} :
    PointFails (p :: ps) previous (m + 1) ↔ PointFails ps (some p.coverage) m := by
  unfold PointFails
  cases m <;> exact Iff.rfl

theorem badPoint_first : ∀ {points : List Point} {index : Nat} {previous : Option Nat} {n : Nat},
    PointFails points previous n → (∀ m < n, ¬ PointFails points previous m) →
      badPoint index previous points = some (index + n)
  | [], _, _, _, ⟨_, at', _⟩, _ => by simp at at'
  | p :: ps, index, previous, 0, ⟨q, at', bad⟩, _ => by
    obtain rfl : p = q := by simpa using at'
    exact badPoint_cons_bad bad
  | p :: ps, index, previous, n + 1, fails, before => by
    have good : p.Good previous ps := not_not.1 fun bad => before 0 (Nat.succ_pos n) ⟨p, rfl, bad⟩
    rw [badPoint_cons_good good, badPoint_first (pointFails_succ.1 fails) fun m less failing =>
      before (m + 1) (Nat.succ_lt_succ less) (pointFails_succ.2 failing)]
    exact congrArg some (by omega)

/-- The failing points in the words of R33. -/
theorem pointFails_iff {points : List Point} {m : Nat} : PointFails points none m ↔ ∃ p, points[m]? = some p ∧
    ((m = 0 ∧ p.coverage ≠ 0) ∨ (m + 1 = points.length ∧ p.coverage ≠ 1000) ∨
      (∃ q, 1 ≤ m ∧ points[m - 1]? = some q ∧ p.coverage ≤ q.coverage) ∨ 4000 < p.opening) := by
  refine exists_congr fun p => and_congr_right fun at' => ?_
  obtain ⟨below, -⟩ := List.getElem?_eq_some_iff.1 at'
  have last : points.drop (m + 1) = [] ↔ m + 1 = points.length := by
    rw [List.drop_eq_nil_iff]
    omega
  have start : ¬ p.Follows (if m = 0 then none else (points[m - 1]?).map Point.coverage) ↔
      (m = 0 ∧ p.coverage ≠ 0) ∨ ∃ q, 1 ≤ m ∧ points[m - 1]? = some q ∧ p.coverage ≤ q.coverage := by
    cases m with
    | zero => simp [Point.Follows]
    | succ m =>
      have before : points[m]? = some points[m] := List.getElem?_eq_getElem (by omega)
      simp [Point.Follows, before]
  unfold Point.Good
  rw [last, not_and_or, start, not_and_or, Classical.not_imp, not_le]
  exact or_assoc.trans (or_congr_right or_left_comm)

/-- Settles O18. -/
theorem setupAndCurveRefused : Obligations.SetupAndCurveRefused := by
  refine ⟨fun s t checks n held is fails before => ?_, fun s t i ref points held payload small => ⟨fun above => ?_,
    fun within range => ?_, fun n within low high below first => ?_⟩⟩
  · refine management_refused held (rules := towerSetupRules) ?_
    have flag (late : 5 ≤ n) : byteAt t.payload 1 ≤ 1 := by
      have second := before 1 (by omega)
      rw [is] at second
      exact of_decide_eq_true (Option.some.inj second)
    have fifth (late : 5 ≤ n) : checks[5]? = some (s.curveIdOk (byteAt t.payload 1) (byteAt t.payload 7)) := by
      rw [is, State.curveIdOk_eq (flag late)]
      rfl
    obtain ⟨fails', before'⟩ := set_results fails before fifth
    have failing : firstFailing (s.setupChecks t.payload) = some n := by
      rw [is] at fails' before'
      rw [State.setupChecks_eq]
      exact (firstFailing_numbered 0 fails' before').trans (congrArg some (Nat.zero_add n))
    simp only [towerSetupRules, failing]
  · refine management_refused held (rules := curveLoadRules) ?_
    have none : curveOf (byteAt t.payload 0) = none := by
      rw [payload]
      exact dif_neg (show ¬ i.toNat < 16 by omega)
    simp only [curveLoadRules, none]
  · refine management_refused held (rules := curveLoadRules) ?_
    have curve : curveOf (byteAt t.payload 0) = some ⟨i.toNat, by omega⟩ := by
      rw [payload]
      exact dif_pos (show i.toNat < 16 by omega)
    have outside : inRange 20 100 (byteAt t.payload 1) = false := by
      rw [payload]
      exact Bool.eq_false_iff.2 fun h => range (inRange_iff.1 h)
    simp only [curveLoadRules, curve, outside, Bool.false_eq_true, if_false]
  · refine management_refused held (rules := curveLoadRules) ?_
    obtain ⟨fails, before⟩ := first
    have curve : curveOf (byteAt t.payload 0) = some ⟨i.toNat, by omega⟩ := by
      rw [payload]
      exact dif_pos (show i.toNat < 16 by omega)
    have inside : inRange 20 100 (byteAt t.payload 1) = true := by
      rw [payload]
      exact inRange_iff.2 ⟨low, high⟩
    have read : pointsOf (t.payload.drop 2) = points := by
      rw [payload]
      exact pointsOf_flatMap small
    have bad : badPoint 0 none points = some n :=
      (badPoint_first (pointFails_iff.2 fails) fun m less failing => before m less (pointFails_iff.1 failing)).trans
        (congrArg some (Nat.zero_add n))
    simp only [curveLoadRules, curve, inside, read, bad, if_true]

end Sys2Proof.Machine
end

section
/-! PROOFS. PROFILE_BEGIN, PROFILE_END and the idle rule (R41 to R45, R51 to R53). -/

namespace Sys2Proof.Machine

/-! ### The payload of a PROFILE_BEGIN (Table 3-2) -/

theorem beginBytes_read (i : TowerIx) {b : ProfileBody} (ok : b.ok) {p : List Byte}
    (is : p = byteOf i.val :: loadModeCode b.mode :: be16 b.job ++ byteOf b.zoneCount :: be16 b.zonePitch ++
      be16s b.zoneOrigin ++ be16 b.sheetLeft ++ be16 b.sheetRight) :
    byteAt p 0 = i.val ∧ byteAt p 1 = (loadModeCode b.mode).toNat ∧ u16At p 2 = b.job ∧ byteAt p 4 = b.zoneCount ∧
      u16At p 5 = b.zonePitch ∧ s16At p 7 = b.zoneOrigin ∧ u16At p 9 = b.sheetLeft ∧ u16At p 11 = b.sheetRight := by
  obtain ⟨job, zoneCount, zonePitch, zoneOrigin, sheet, right, -, -, -, -⟩ := ok
  have tower := i.isLt
  rw [is]
  exact ⟨byteOf_toNat_small (by omega), rfl, u16_be16 (by omega), byteOf_toNat_small (by omega), u16_be16 (by omega),
    s16_be16s (by omega) (by omega), u16_be16 (by omega), u16_be16 (by omega)⟩

theorem loadModeOf_code (mode : LoadMode) : loadModeOf (loadModeCode mode).toNat = some mode := by cases mode <;> rfl

theorem loadModeCode_le (mode : LoadMode) : (loadModeCode mode).toNat ≤ 1 := by cases mode <;> decide

/-- The rules of PROFILE_BEGIN for a header in its ranges (R42 to R45). -/
theorem profileBeginRules_header {s : State} {i : TowerIx} {b : ProfileBody} {p : List Byte}
    (on : (s.tower i).setup.enabled = true) (ok : b.ok) (clamped : b.clampedCount = 0) (overrun : b.overrunCount = 0)
    (is : p = byteOf i.val :: loadModeCode b.mode :: be16 b.job ++ byteOf b.zoneCount :: be16 b.zonePitch ++
      be16s b.zoneOrigin ++ be16 b.sheetLeft ++ be16 b.sheetRight) :
    profileBeginRules s p = match judgeBegin ((s.breakLoad i).tower i).staged p b.mode with
      | .error r => refuse (s.breakLoad i) r [byteOf i.val]
      | .ok zones =>
        { state := (s.breakLoad i).withTower i (((s.breakLoad i).tower i).openLoad { b with zones := zones }),
          result := .ok, data := [byteOf i.val] } := by
  obtain ⟨tower, mode, job, zoneCount, zonePitch, zoneOrigin, left, right⟩ := beginBytes_read i ok is
  have header (zones : List Nat) : beginBody p b.mode zones = { b with zones := zones } := by
    unfold beginBody
    rw [job, zoneCount, zonePitch, zoneOrigin, left, right, clamped, overrun]
  obtain ⟨jobs, counts, pitches, origins, sheet, most, -, -, -, -⟩ := ok
  have checked : firstFailing (beginChecks p) = none := by
    refine firstFailing_eq_none.2 ?_
    simp only [beginChecks, List.forall_mem_cons, Bool.and_eq_true, inRange_iff, inRangeInt_iff, decide_eq_true_eq, mode,
      job, zoneCount, zonePitch, zoneOrigin, left, right, Nat.zero_le, true_and]
    exact ⟨loadModeCode_le b.mode, jobs, counts, pitches, origins, sheet.le.trans most, ⟨most, sheet⟩, nofun⟩
  have known : loadModeOf (byteAt p 1) = some b.mode := (congrArg loadModeOf mode).trans (loadModeOf_code _)
  have named : towerOf (byteAt p 0) = some i := (congrArg towerOf tower).trans (towerOf_val i)
  simp only [profileBeginRules, named, on, if_true, checked, known, header] <;> rfl

theorem judgeBegin_full {staged : Option Staged} {p : List Byte} :
    judgeBegin staged p .full = .ok (List.replicate (byteAt p 4) 0) := rfl

theorem judgeBegin_same {q : Staged} {p : List Byte} (complete : q.status = .complete)
    (same : q.body.zoneCount = byteAt p 4 ∧ q.body.zonePitch = u16At p 5 ∧ q.body.zoneOrigin = s16At p 7) :
    judgeBegin (some q) p .delta = .ok q.body.zones :=
  (if_neg (not_not.2 complete)).trans (if_pos same)

theorem judgeBegin_other {q : Staged} {p : List Byte} (complete : q.status = .complete)
    (other : ¬ (q.body.zoneCount = byteAt p 4 ∧ q.body.zonePitch = u16At p 5 ∧ q.body.zoneOrigin = s16At p 7)) :
    judgeBegin (some q) p .delta = .error .geometryMismatch :=
  (if_neg (not_not.2 complete)).trans (if_neg other)

theorem judgeBegin_incomplete {staged : Option Staged} {p : List Byte} (other : ∀ q, staged = some q → q.status ≠ .complete) :
    judgeBegin staged p .delta = .error .notComplete := by
  cases staged with
  | none => rfl
  | some q => exact if_pos (other q rfl)

/-! ### A load that is broken first (R43) -/

theorem Tower.loading_eq_none {w : Tower} (other : ∀ q, w.staged = some q → q.status ≠ .loading) : w.loading = none := by
  by_contra some
  obtain ⟨q, loading⟩ := Option.ne_none_iff_exists'.1 some
  obtain ⟨staged, status⟩ := Tower.loading_eq_some.1 loading
  exact other q staged status

/-- The command of a kind whose rules break an open load and replace its tower: PROFILE_PARTIAL occurs when there was a
load to break. -/
theorem management_broken {s : State} {k : Kind} {t : Telegram} (held : s.holds k t)
    {rules : State → List Byte → Answer} {i : TowerIx} {v : Tower} {r : Result} {data : List Byte}
    (e : rules s t.payload = { state := (s.breakLoad i).withTower i v, result := r, data := data }) :
    management k rules s = .next (if (s.tower i).loading.isSome = true then
        ((s.withTower i v).replied t r data).occurred srcProfilePartial (.tower i)
      else (s.withTower i v).replied t r data) := by
  rcases s.breakLoad_cases i with ⟨q, loading, broken⟩ | ⟨noLoad, broken⟩ <;> rw [broken] at e
  · rw [State.raise_withTower, State.withTower_twice] at e
    rw [if_pos (by rw [loading]; rfl)]
    exact management_raised held e held.1.2
  · rw [if_neg (by rw [noLoad]; exact Bool.false_ne_true)]
    exact management_quiet held e held.1.2

theorem State.breakLoad_tower_self (s : State) (i : TowerIx) :
    (s.breakLoad i).tower i = if (s.tower i).loading.isSome = true then (s.tower i).closePartial else s.tower i := by
  rcases s.breakLoad_cases i with ⟨q, loading, broken⟩ | ⟨noLoad, broken⟩ <;> rw [broken]
  · rw [State.raise_tower, State.withTower_tower_self, if_pos (by rw [loading]; rfl)]
  · rw [if_neg (by rw [noLoad]; exact Bool.false_ne_true)]

/-- Opening a load writes over what the break left. -/
theorem State.breakLoad_openLoad (s : State) (i : TowerIx) (b : ProfileBody) :
    ((s.breakLoad i).tower i).openLoad b = (s.tower i).openLoad b := by
  rw [State.breakLoad_tower_self]
  split <;> rfl

/-- Settles O20. -/
theorem profileBeginExecuted : Obligations.ProfileBeginExecuted := by
  refine ⟨fun s t i b held on ok clamped overrun payload => ?_, fun s t held => ⟨fun above => ?_, fun i number =>
    ⟨fun off => ?_, fun on checks n is fails before => ?_⟩⟩⟩
  · intro w opened with' broken
    have rules := profileBeginRules_header on ok clamped overrun payload
    obtain ⟨-, -, -, zoneCount, zonePitch, zoneOrigin, -, -⟩ := beginBytes_read i ok payload
    have opens {zones : List Nat} (judged : judgeBegin ((s.breakLoad i).tower i).staged t.payload b.mode = .ok zones) :
        exec .profileBegin s = .next (broken ((with' (opened zones)).replied t .ok [byteOf i.val])) := by
      rw [judged] at rules
      have written := congrArg (fun v => Answer.mk ((s.breakLoad i).withTower i v) .ok [byteOf i.val])
        (s.breakLoad_openLoad i { b with zones := zones })
      exact management_broken held (rules.trans written)
    have whole {q : Staged} (staged : w.staged = some q) (complete : q.status = .complete) : w.loading = none :=
      Tower.loading_eq_none fun p is => by
        obtain rfl := Option.some.inj (staged.symm.trans is)
        rw [complete]
        nofun
    have unbroken (noLoad : w.loading = none) (u : State) : broken u = u := if_neg (by rw [noLoad]; exact Bool.false_ne_true)
    refine ⟨fun full => opens (by rw [full, judgeBegin_full, zoneCount]), fun q delta staged complete count pitch origin => ?_,
      fun q delta staged complete other => ?_, fun q delta staged loading => ?_, fun delta other => ?_⟩
    · have noLoad := whole staged complete
      have judged : judgeBegin ((s.breakLoad i).tower i).staged t.payload b.mode = .ok q.body.zones := by
        rw [State.breakLoad_none noLoad, show (s.tower i).staged = some q from staged, delta]
        exact judgeBegin_same complete ⟨count.trans zoneCount.symm, pitch.trans zonePitch.symm, origin.trans zoneOrigin.symm⟩
      have ran := opens judged
      rw [unbroken noLoad] at ran
      exact ran
    · have judged : judgeBegin ((s.breakLoad i).tower i).staged t.payload b.mode = .error .geometryMismatch := by
        rw [State.breakLoad_none (whole staged complete), show (s.tower i).staged = some q from staged, delta]
        exact judgeBegin_other complete (by rw [zoneCount, zonePitch, zoneOrigin]; exact other)
      rw [judged, State.breakLoad_none (whole staged complete)] at rules
      exact management_refused held rules
    · have open' : w.loading = some q := Tower.loading_eq_some.2 ⟨staged, loading⟩
      have closed : (s.breakLoad i).tower i = { w with staged := some { q with status := .incomplete }, idle := none } := by
        rw [State.breakLoad_tower_self, if_pos (by rw [show (s.tower i).loading = some q from open']; rfl),
          Tower.closePartial, show (s.tower i).staged = some q from staged]
        rfl
      have judged : judgeBegin ((s.breakLoad i).tower i).staged t.payload b.mode = .error .notComplete := by
        rw [closed, delta]
        exact judgeBegin_incomplete fun p is => by
          obtain rfl := Option.some.inj is
          nofun
      rw [judged] at rules
      refine management_broken held (rules.trans ?_)
      rw [← closed, State.withTower_self]
      rfl
    · have noLoad : w.loading = none := Tower.loading_eq_none fun q is => by
        rw [other q is]
        nofun
      have judged : judgeBegin ((s.breakLoad i).tower i).staged t.payload b.mode = .error .notComplete := by
        rw [State.breakLoad_none noLoad, delta]
        exact judgeBegin_incomplete fun q is => by
          rw [other q is]
          nofun
      rw [judged, State.breakLoad_none noLoad] at rules
      exact management_refused held rules
  · refine management_refused held (rules := profileBeginRules) ?_
    simp only [profileBeginRules, towerOf_eq_none above]
  · refine management_refused held (rules := profileBeginRules) ?_
    simp only [profileBeginRules, towerOf_eq_some number, off, Bool.false_eq_true, if_false]
  · refine management_refused held (rules := profileBeginRules) ?_
    have numbered : beginChecks t.payload = (checks.zipIdx 1).map fun c => (c.2, c.1) := by
      have small : u16At t.payload 2 ≤ 65535 := by
        have high := (t.payload.getD 2 0).isLt
        have low := (t.payload.getD 3 0).isLt
        show (t.payload.getD 2 0).toNat * 256 + (t.payload.getD 3 0).toNat ≤ 65535
        omega
      rw [is]
      simp only [beginChecks, inRange, inRangeInt, Nat.zero_le, decide_true, Bool.true_and, small, Bool.and_true]
      rfl
    have failing : firstFailing (beginChecks t.payload) = some (n + 1) := by
      rw [numbered, firstFailing_numbered 1 fails before, Nat.add_comm]
    simp only [profileBeginRules, towerOf_eq_some number, on, if_true, failing]

/-! ### PROFILE_END and the idle rule (R51 to R53) -/

theorem Staged.endStatus_whole {q : Staged} (whole : q.body.mode = .delta ∨ ∀ m ∈ q.written, m = true) :
    q.endStatus = .complete := by
  unfold Staged.endStatus
  cases mode : q.body.mode with
  | delta => rfl
  | full => exact if_pos (List.all_eq_true.2 (whole.resolve_left (by rw [mode]; nofun)))

theorem Staged.endStatus_part {q : Staged} (part : ¬ (q.body.mode = .delta ∨ ∀ m ∈ q.written, m = true)) :
    q.endStatus = .incomplete := by
  unfold Staged.endStatus
  cases mode : q.body.mode with
  | delta => exact absurd (.inl mode) part
  | full => exact if_neg fun all => part (.inr (List.all_eq_true.1 all))

/-- The rules of PROFILE_END for an open load (R51). -/
theorem profileEndRules_open {s : State} {i : TowerIx} {q : Staged} {p : List Byte} {status : StagedStatus}
    (named : towerOf (byteAt p 0) = some i) (loading : (s.tower i).loading = some q) (ends : q.endStatus = status) :
    profileEndRules s p =
      (let closed := s.withTower i { s.tower i with staged := some { q with status := status }, idle := none }
      { state := if status = .incomplete then closed.raise srcProfilePartial (.tower i) else closed,
        result := .ok, data := [byteOf i.val, stagedCode (some { q with status := status }), byteOf (q.written.count true)] }) := by
  simp only [profileEndRules, named, loading, ends]

theorem State.breakLoad_open {s : State} {i : TowerIx} {q : Staged} (loading : (s.tower i).loading = some q) :
    s.breakLoad i = (s.withTower i { s.tower i with staged := some { q with status := .incomplete }, idle := none }).raise
      srcProfilePartial (.tower i) := by
  simp only [State.breakLoad, loading, Tower.closePartial, (Tower.loading_eq_some.1 loading).1, Option.map_some]

theorem byteAt_of_head {p : List Byte} {i : TowerIx} (head : p.head? = some (byteOf i.val)) :
    towerOf (byteAt p 0) = some i := by
  cases p with
  | nil => cases head
  | cons b rest =>
    obtain rfl := Option.some.inj head
    have small := i.isLt
    exact (congrArg towerOf (byteOf_toNat_small (by omega))).trans (towerOf_val i)

/-- Settles O22. -/
theorem loadClosed : Obligations.LoadClosed := by
  refine ⟨fun s i ready => ?_, fun s t i noLoad head => ⟨fun held flag => ?_, fun held => ?_⟩, fun s t held above => ?_⟩
  · intro w
    refine ⟨fun t q held payload loading => ?_, fun q loading => ?_, fun noLoad => ?_⟩
    · intro whole closed
      have named : towerOf (byteAt t.payload 0) = some i := byteAt_of_head (by rw [payload]; rfl)
      refine ⟨fun is => ?_, fun isnt => ?_⟩
      · exact management_quiet held (profileEndRules_open named loading (Staged.endStatus_whole is)) held.1.2
      · exact management_raised held (profileEndRules_open named loading (Staged.endStatus_part isnt)) held.1.2
    · refine (event_released ready.1 fun s => s.breakLoad i).trans (congrArg Host.Outcome.next ?_)
      rw [State.breakLoad_open loading]
      exact State.raise_judgeNotices (by exact ready.2) _ _
    · exact event_unchanged ready (change := fun s => s.breakLoad i) (State.breakLoad_none noLoad)
  · refine management_refused held (rules := profileZonesRules) ?_
    simp only [profileZonesRules, byteAt_of_head head, if_neg (not_lt.2 flag), noLoad]
  · refine management_refused held (rules := profileEndRules) ?_
    simp only [profileEndRules, byteAt_of_head head, noLoad]
  · refine management_refused held (rules := profileEndRules) ?_
    simp only [profileEndRules, towerOf_eq_none above]

end Sys2Proof.Machine
end

section
/-! PROOFS. PROFILE_ZONES: what a run of values does to a load (R46 to R50). -/

namespace Sys2Proof.Machine

/-! ### One value placed (R48, R49) -/

theorem satAdd_min {n k : Nat} (h : n ≤ 65535) : min 65535 (satAdd n + k) = min 65535 (n + (1 + k)) := by
  unfold satAdd
  split <;> omega

theorem Placing.place_beyond {a : Placing} (full : a.staged.body.zoneCount ≤ a.staged.pointer) (v : Nat) :
    a.place v = { a with
      staged := { a.staged with body := { a.staged.body with overrunCount := satAdd a.staged.body.overrunCount } },
      overrun := a.overrun + 1 } := if_pos full

/-- A value that finds a zone: 65535 skips it, one up to 1000 is stored, one above is stored as 1000 and counted (R48). -/
theorem Placing.place_within {a : Placing} (room : a.staged.pointer < a.staged.body.zoneCount) (v : Nat) :
    a.place v = { a with
      staged := { a.staged with
        body := { a.staged.body with
          zones := if v = 65535 then a.staged.body.zones else a.staged.body.zones.set a.staged.pointer (min v 1000),
          clampedCount := if 1000 < v ∧ v ≠ 65535 then satAdd a.staged.body.clampedCount
            else a.staged.body.clampedCount },
        written := if v = 65535 then a.staged.written else a.staged.written.set a.staged.pointer true,
        pointer := a.staged.pointer + 1 },
      stored := a.stored + if v = 65535 then 0 else 1,
      clamped := a.clamped + if 1000 < v ∧ v ≠ 65535 then 1 else 0 } := by
  refine (if_neg (not_le.2 room)).trans ?_
  by_cases skip : v = 65535
  · subst skip
    rfl
  · refine (if_neg skip).trans ?_
    by_cases small : v ≤ 1000
    · simp only [if_pos small, skip, if_false, not_lt.2 small, false_and, min_eq_left small, Staged.store]
      rfl
    · have large := not_le.1 small
      simp only [if_neg small, skip, if_false, large, ne_eq, not_false_eq_true, and_self, if_true, min_eq_right large.le,
        Staged.store]

/-! ### A run of values -/

/-- What a run of values makes of a load (R48, R49). -/
structure Placing.Run (a b : Placing) (values : List Nat) : Prop where
  pointer : b.staged.pointer =
    a.staged.pointer + (values.take (a.staged.body.zoneCount - a.staged.pointer)).length
  overrun : b.overrun =
    a.overrun + (values.length - (values.take (a.staged.body.zoneCount - a.staged.pointer)).length)
  stored : b.stored = a.stored + (values.take (a.staged.body.zoneCount - a.staged.pointer)).countP (· ≠ 65535)
  clamped : b.clamped = a.clamped +
    (values.take (a.staged.body.zoneCount - a.staged.pointer)).countP fun v => 1000 < v ∧ v ≠ 65535
  status : b.staged.status = a.staged.status
  body : b.staged.body = { a.staged.body with
    zones := b.staged.body.zones,
    clampedCount := min 65535 (a.staged.body.clampedCount + (b.clamped - a.clamped)),
    overrunCount := min 65535 (a.staged.body.overrunCount + (b.overrun - a.overrun)) }
  zones : b.staged.body.zones.length = a.staged.body.zoneCount
  marks : b.staged.written.length = a.staged.body.zoneCount
  written : ∀ z v, a.staged.pointer ≤ z → z < a.staged.body.zoneCount → values[z - a.staged.pointer]? = some v →
    v ≠ 65535 → b.staged.body.zones[z]? = some (min v 1000) ∧ b.staged.written[z]? = some true
  kept : ∀ z, z < a.staged.body.zoneCount → (z < a.staged.pointer ∨ values[z - a.staged.pointer]? = none ∨
    values[z - a.staged.pointer]? = some 65535) →
      b.staged.body.zones[z]? = a.staged.body.zones[z]? ∧ b.staged.written[z]? = a.staged.written[z]?

/-- A load whose lists have a place for every zone, LoadPointer and counters in range. -/
structure Placing.Fits (a : Placing) : Prop where
  zones : a.staged.body.zones.length = a.staged.body.zoneCount
  marks : a.staged.written.length = a.staged.body.zoneCount
  pointer : a.staged.pointer ≤ a.staged.body.zoneCount
  clamped : a.staged.body.clampedCount ≤ 65535
  overrun : a.staged.body.overrunCount ≤ 65535

theorem Placing.Run.nil {a : Placing} (fits : a.Fits) : a.Run a [] where
  pointer := by simp
  overrun := by simp
  stored := by simp
  clamped := by simp
  status := rfl
  body := by
    rw [Nat.sub_self, Nat.sub_self, Nat.add_zero, Nat.add_zero, min_eq_right fits.clamped, min_eq_right fits.overrun]
  zones := fits.zones
  marks := fits.marks
  written _ _ _ _ h := nomatch h
  kept _ _ _ := ⟨rfl, rfl⟩

/-- Values beyond the last zone are discarded and counted (R49). -/
theorem Placing.Run.beyond {a b : Placing} {v : Nat} {vs : List Nat} (fits : a.Fits)
    (full : a.staged.body.zoneCount ≤ a.staged.pointer) (rest : (a.place v).Run b vs) : a.Run b (v :: vs) := by
  rw [Placing.place_beyond full] at rest
  have none : a.staged.body.zoneCount - a.staged.pointer = 0 := by omega
  obtain ⟨pointer, overrun, stored, clamped, status, body, zones, marks, -, kept⟩ := rest
  simp only [none, List.take_zero, List.length_nil, List.countP_nil, Nat.add_zero, Nat.sub_zero] at pointer overrun stored clamped
  refine ⟨by simp [none, pointer], by simp [none, overrun]; omega, by simp [none, stored], by simp [none, clamped], status, ?_,
    zones, marks, fun z x low high => by omega, fun z inside _ => kept z inside (.inl (by simpa using by omega))⟩
  have count : min 65535 (satAdd a.staged.body.overrunCount + (b.overrun - (a.overrun + 1))) =
      min 65535 (a.staged.body.overrunCount + (b.overrun - a.overrun)) := by
    rw [satAdd_min fits.overrun]
    omega
  simp only [count] at body
  exact body

/-- A value that finds a zone, and the run after it (R48). -/
theorem Placing.Run.within {a b : Placing} {v : Nat} {vs : List Nat} (fits : a.Fits)
    (room : a.staged.pointer < a.staged.body.zoneCount) (rest : (a.place v).Run b vs) : a.Run b (v :: vs) := by
  rw [Placing.place_within room] at rest
  have taken : (v :: vs).take (a.staged.body.zoneCount - a.staged.pointer) =
      v :: vs.take (a.staged.body.zoneCount - (a.staged.pointer + 1)) := by
    rw [show a.staged.body.zoneCount - a.staged.pointer = a.staged.body.zoneCount - (a.staged.pointer + 1) + 1 by omega,
      List.take_succ_cons]
  have later {z : Nat} (above : a.staged.pointer < z) :
      (v :: vs)[z - a.staged.pointer]? = vs[z - (a.staged.pointer + 1)]? := by
    rw [show z - a.staged.pointer = z - (a.staged.pointer + 1) + 1 by omega, List.getElem?_cons_succ]
  have here : (v :: vs)[a.staged.pointer - a.staged.pointer]? = some v := by rw [Nat.sub_self]; rfl
  obtain ⟨pointer, overrun, stored, clamped, status, body, zones, marks, written, kept⟩ := rest
  dsimp only at pointer overrun stored clamped status body zones marks written kept
  refine ⟨?_, ?_, ?_, ?_, status, ?_, zones, marks, fun z x low high value real => ?_, fun z inside out => ?_⟩
  · rw [taken, List.length_cons, pointer]
    omega
  · rw [taken, List.length_cons, List.length_cons, overrun]
    omega
  · rw [taken, List.countP_cons, stored]
    by_cases skip : v = 65535 <;> simp [skip] <;> omega
  · rw [taken, List.countP_cons, clamped]
    simp only [decide_eq_true_eq]
    omega
  · have count : min 65535 ((if 1000 < v ∧ v ≠ 65535 then satAdd a.staged.body.clampedCount
        else a.staged.body.clampedCount) + (b.clamped - (a.clamped + if 1000 < v ∧ v ≠ 65535 then 1 else 0))) =
        min 65535 (a.staged.body.clampedCount + (b.clamped - a.clamped)) := by
      split
      · rename_i large
        rw [if_pos large] at clamped
        rw [satAdd_min fits.clamped]
        omega
      · rfl
    rw [count] at body
    exact body
  · rcases low.eq_or_lt with rfl | above
    · obtain rfl := Option.some.inj (here.symm.trans value)
      obtain ⟨zone, mark⟩ := kept a.staged.pointer high (.inl (Nat.lt_succ_self _))
      rw [if_neg real, List.getElem?_set_self (by rw [fits.zones]; exact high)] at zone
      rw [if_neg real, List.getElem?_set_self (by rw [fits.marks]; exact high)] at mark
      exact ⟨zone, mark⟩
    · rw [later above] at value
      exact written z x above high value real
  · have stays (other : z ≠ a.staged.pointer ∨ v = 65535)
        (left : z < a.staged.pointer + 1 ∨ vs[z - (a.staged.pointer + 1)]? = none ∨
          vs[z - (a.staged.pointer + 1)]? = some 65535) :
        b.staged.body.zones[z]? = a.staged.body.zones[z]? ∧ b.staged.written[z]? = a.staged.written[z]? := by
      obtain ⟨zone, mark⟩ := kept z inside left
      rw [zone, mark]
      by_cases skip : v = 65535
      · rw [if_pos skip, if_pos skip]
        exact ⟨rfl, rfl⟩
      · have ne := (other.resolve_right skip).symm
        rw [if_neg skip, if_neg skip, List.getElem?_set_ne ne, List.getElem?_set_ne ne]
        exact ⟨rfl, rfl⟩
    rcases lt_trichotomy z a.staged.pointer with below | rfl | above
    · exact stays (.inl below.ne) (.inl (by omega))
    · rw [here] at out
      exact stays (.inr (by simpa using out)) (.inl (Nat.lt_succ_self _))
    · rw [later above] at out
      exact stays (.inl above.ne') (out.imp_left fun h => by omega)

theorem Placing.Fits.place {a : Placing} (fits : a.Fits) (v : Nat) : (a.place v).Fits := by
  obtain ⟨zones, marks, pointer, clamped, overrun⟩ := fits
  by_cases room : a.staged.pointer < a.staged.body.zoneCount
  · rw [Placing.place_within room]
    refine ⟨?_, ?_, room, ?_, overrun⟩
    · dsimp only
      split
      · exact zones
      · rw [List.length_set, zones]
    · dsimp only
      split
      · exact marks
      · rw [List.length_set, marks]
    · dsimp only
      split
      · exact satAdd_le clamped
      · exact clamped
  · rw [Placing.place_beyond (not_lt.1 room)]
    exact ⟨zones, marks, pointer, clamped, satAdd_le overrun⟩

theorem Placing.run_foldl (values : List Nat) : ∀ {a : Placing}, a.Fits → a.Run (values.foldl Placing.place a) values := by
  induction values with
  | nil => exact fun fits => .nil fits
  | cons v vs ih =>
    intro a fits
    have rest := ih (fits.place v)
    by_cases room : a.staged.pointer < a.staged.body.zoneCount
    · exact .within fits room rest
    · exact .beyond fits (not_lt.1 room) rest

/-! ### The rules of PROFILE_ZONES -/

/-- The rules for a load that is open (R46 to R50). -/
theorem profileZonesRules_open {s : State} {i : TowerIx} {present start : Byte} {values : List Nat} {lone : List Byte}
    {q : Staged} (short : lone.length ≤ 1) (small : ∀ v ∈ values, v < 65536) (loading : (s.tower i).loading = some q)
    (flag : present.toNat ≤ 1) (inside : present = 1 → start.toNat < q.body.zoneCount) :
    profileZonesRules s (byteOf i.val :: present :: start :: values.flatMap be16 ++ lone) =
      (let a := placeZones q (if present = 1 then some start.toNat else none) values
      let placed := s.withTower i { s.tower i with staged := some a.staged, idle := some 2000 }
      { state := if 0 < a.overrun then placed.raise srcZoneOverrun (.tower i) else placed,
        result := if a.clamped = 0 then .ok else .clamped,
        data := [byteOf i.val, byteOf a.staged.pointer, byteOf a.stored, byteOf a.overrun] }) := by
  obtain ⟨p, is⟩ : ∃ p, p = byteOf i.val :: present :: start :: values.flatMap be16 ++ lone := ⟨_, rfl⟩
  have named : towerOf (byteAt p 0) = some i := byteAt_of_head (by rw [is]; rfl)
  have second : byteAt p 1 = present.toNat := by rw [is]; rfl
  have third : byteAt p 2 = start.toNat := by rw [is]; rfl
  have run : u16Run (p.drop 3) = values := by
    rw [is]
    exact u16Run_flatMap values lone short small
  have one : present.toNat = 1 ↔ present = 1 := BitVec.toNat_inj (y := (1 : Byte))
  have within : ¬ (present = 1 ∧ q.body.zoneCount ≤ start.toNat) := fun h => absurd (inside h.1) (not_lt.2 h.2)
  rw [← is]
  simp only [profileZonesRules, named, second, third, run, loading, one, if_neg (not_lt.2 flag), if_neg within,
    Result.ofClamped_pos]
  rfl

/-- Settles O21. -/
theorem zonesPlaced : Obligations.ZonesPlaced := by
  refine ⟨fun s t i present start values lone q held short small payload loading flag inside => ?_,
    fun q start values zones marks first clamped overrun => ?_, fun s t held => ⟨fun above => ?_, fun low above => ?_,
      fun i q number flag loading beyond => ?_⟩⟩
  · intro a u
    have rules := profileZonesRules_open short small loading flag inside
    rw [← payload] at rules
    by_cases beyond' : a.overrun = 0
    · rw [if_pos beyond']
      exact management_quiet held (rules.trans (congrArg (fun v => Answer.mk v _ _) (if_neg (not_lt.2 beyond'.le)))) held.1.2
    · rw [if_neg beyond']
      exact management_raised held
        (rules.trans (congrArg (fun v => Answer.mk v _ _) (if_pos (Nat.pos_of_ne_zero beyond')))) held.1.2
  · intro a
    refine ⟨rfl, ?_⟩
    intro reached
    obtain ⟨pointer, overrun', stored, clamped', status, body, zones', marks', written, kept⟩ :=
      Placing.run_foldl values (a := { staged := { q with pointer := start }, stored := 0, overrun := 0, clamped := 0 })
        ⟨zones, marks, first, clamped, overrun⟩
    rw [Nat.zero_add] at overrun' stored clamped'
    rw [Nat.sub_zero, Nat.sub_zero] at body
    exact ⟨pointer, overrun', stored, clamped', status, body, zones', marks', fun z inside =>
      ⟨fun v low value real => written z v low inside value real, kept z inside⟩⟩
  · refine management_refused held (rules := profileZonesRules) ?_
    simp only [profileZonesRules, towerOf_eq_none above]
  · refine management_refused held (rules := profileZonesRules) ?_
    obtain ⟨i, number⟩ : ∃ i : TowerIx, i.val = byteAt t.payload 0 := ⟨⟨_, Nat.lt_succ_of_le low⟩, rfl⟩
    simp only [profileZonesRules, towerOf_eq_some number, above, if_true]
  · refine management_refused held (rules := profileZonesRules) ?_
    simp only [profileZonesRules, towerOf_eq_some number, flag, loading, beyond, and_self, if_true, Nat.lt_irrefl,
      if_false]

end Sys2Proof.Machine
end

section
/-! PROOFS. JOB_COMMIT, and what refuses a JOB_COMMIT, a KEY_TRIM and a DENSITY_REPORT (R55 to R60, R86, R89). -/

namespace Sys2Proof.Machine

/-! ### What a commit asks of a tower (R57) -/

theorem Tower.commitFault_off {w : Tower} (off : w.setup.enabled = false) (job : Nat) (force : Bool) :
    w.commitFault job force = some .towerOff := if_pos off

theorem Tower.commitFault_empty {w : Tower} (on : w.setup.enabled = true) (none : w.staged = none) (job : Nat)
    (force : Bool) : w.commitFault job force = some .notComplete := by
  unfold Tower.commitFault
  rw [if_neg (by rw [on]; decide), none]

theorem Tower.commitFault_staged {w : Tower} {q : Staged} (on : w.setup.enabled = true) (staged : w.staged = some q)
    (job : Nat) (force : Bool) : w.commitFault job force =
      if q.status = .loading ∨ (q.status = .incomplete ∧ force = false) then some .notComplete
      else if q.body.job = job then none else some .jobMismatch := by
  unfold Tower.commitFault
  rw [if_neg (by rw [on]; decide), staged]

theorem Tower.commitFault_of_ready {w : Tower} {job : Nat} {force : Bool} (on : w.setup.enabled = true)
    (ready : ∃ q, w.staged = some q ∧ q.status ≠ .loading ∧ (q.status = .incomplete → force = true) ∧ q.body.job = job) :
    w.commitFault job force = none := by
  obtain ⟨q, staged, closed, forced, same⟩ := ready
  rw [Tower.commitFault_staged on staged, if_neg, if_pos same]
  rintro (loading | ⟨part, unforced⟩)
  · exact closed loading
  · rw [forced part] at unforced
    cases unforced

theorem mem_maskTowers {mask : Nat} {i : TowerIx} : i ∈ maskTowers mask ↔ mask.testBit i.val = true := by
  simp [maskTowers, mem_allTowers]

theorem maskTowers_sorted (mask : Nat) : (maskTowers mask).Pairwise (· < ·) :=
  List.Pairwise.filter _ (by decide : allTowers.Pairwise (· < ·))

theorem State.commitRefusal_none {s : State} {mask job : Nat} {force : Bool}
    (ready : ∀ i : TowerIx, mask.testBit i.val = true → (s.tower i).commitFault job force = none) :
    s.commitRefusal (maskTowers mask) job force = none := by
  refine List.findSome?_eq_none_iff.2 fun i mem => ?_
  rw [ready i (mem_maskTowers.1 mem)]
  rfl

/-- The first tower of the mask that fails refuses the commit (R57). -/
theorem State.commitRefusal_first {s : State} {mask job : Nat} {force : Bool} {i : TowerIx} {r : Result}
    (named : mask.testBit i.val = true) (fault : (s.tower i).commitFault job force = some r)
    (before : ∀ j : TowerIx, j < i → mask.testBit j.val = true → (s.tower j).commitFault job force = none) :
    s.commitRefusal (maskTowers mask) job force = some (i, r) := by
  obtain ⟨front, rest, split⟩ := List.append_of_mem (mem_maskTowers.2 named)
  refine List.findSome?_eq_some_iff.2 ⟨front, i, rest, split, by rw [fault]; rfl, fun j mem => ?_⟩
  have sorted := maskTowers_sorted mask
  rw [split] at sorted
  have less : j < i := (List.pairwise_append.1 sorted).2.2 j mem i List.mem_cons_self
  have inMask : mask.testBit j.val = true := mem_maskTowers.1 (by rw [split]; exact List.mem_append_left _ mem)
  rw [before j less inMask]
  rfl

/-! ### The payload of a JOB_COMMIT -/

theorem commitBytes_read {p : List Byte} {mask job : Nat} {flags : Byte} (is : p = be16 mask ++ be16 job ++ [flags])
    (maskRange : mask < 65536) (jobRange : job < 65536) : u16At p 0 = mask ∧ u16At p 2 = job ∧ byteAt p 4 = flags.toNat := by
  rw [is]
  exact ⟨u16_be16 maskRange, u16_be16 jobRange, rfl⟩

/-- Bit 1 of a Flags byte in its range (R55). -/
theorem flags_force {n : Nat} (small : n < 4) : n.testBit 1 = decide (2 ≤ n) := by
  revert n
  decide

/-- Settles O23. -/
theorem jobCommitAccepted : Obligations.JobCommitAccepted := by
  intro s t mask job keepTrims force held payload some' inside jobSome jobRange press ready
  obtain ⟨readMask, readJob, readFlags⟩ := commitBytes_read payload (by omega) jobRange
  have flags : byteAt t.payload 4 = (if keepTrims then 1 else 0) + (if force then 2 else 0) := by
    rw [readFlags]
    cases keepTrims <;> cases force <;> rfl
  have bits : (byteAt t.payload 4).testBit 0 = keepTrims ∧ (byteAt t.payload 4).testBit 1 = force ∧
      ¬ 4 ≤ byteAt t.payload 4 := by
    rw [flags]
    cases keepTrims <;> cases force <;> decide
  obtain ⟨keep, forced, range⟩ := bits
  have free : s.commitRefusal (maskTowers mask) job force = none :=
    State.commitRefusal_none fun i named => Tower.commitFault_of_ready (ready i named).1 (ready i named).2
  have rules : jobCommitRules s t.payload =
      { state := (maskTowers mask).foldl (State.commitTower keepTrims) s, result := .ok, data := be16 mask } := by
    have maskOk : ¬ (mask = 0 ∨ 4096 ≤ mask) := by omega
    simp only [jobCommitRules, readMask, readJob, keep, forced, if_neg maskOk, if_neg jobSome.ne', if_neg range,
      if_neg press, free]
  obtain ⟨n, notices, ran, towers, whole, console, kinds, handler, sources, due, blocks⟩ :=
    (State.commitTower_reworks keepTrims).replied (fun j => mask.testBit j.val) s t .ok (be16 mask)
  refine ⟨n, notices, (management_replied held rules).trans (congrArg Host.Outcome.next ran), whole, fun i unnamed => ?_,
    fun i q named staged => ?_, ?_, kinds, handler, sources, due, blocks⟩
  · exact (towers i).trans (if_neg (by rw [unnamed]; exact Bool.false_ne_true))
  · rw [towers i, if_pos named, State.committed_eq staged]
    rfl
  · rw [console, show t.kind = 0x23 from held.2.2.1]
    rfl

/-! ### Runs of keys (R86, R89) -/

theorem s16Run_length : ∀ l : List Byte, (s16Run l).length = l.length / 2
  | [] => by simp [s16Run]
  | [_] => by simp [s16Run]
  | _ :: _ :: rest => by
    rw [s16Run, List.length_cons, s16Run_length rest]
    simp only [List.length_cons]
    omega

theorem keyRangeOk_false {first n keyCount : Nat} (out : first = 0 ∨ keyCount + 1 < first + n) :
    keyRangeOk first n keyCount = false := by
  refine Bool.eq_false_iff.2 fun ok => ?_
  simp only [keyRangeOk, Bool.and_eq_true, bne_iff_ne, decide_eq_true_eq] at ok
  omega

/-- Settles O28. -/
theorem commitAndFeedbackRefused : Obligations.CommitAndFeedbackRefused := by
  refine ⟨fun s t mask job flags held payload maskRange jobRange => ?_, fun s t => ?_⟩
  · intro refusedWith
    obtain ⟨readMask, readJob, readFlags⟩ := commitBytes_read payload maskRange jobRange
    have refused {r : Result} {data : List Byte} (e : jobCommitRules s t.payload = refuse s r data) : refusedWith r data :=
      management_refused held e
    refine ⟨fun bad => refused ?_, fun some' inside none => refused ?_, fun some' inside jobSome above => refused ?_,
      fun some' inside jobSome range => ⟨fun printing => refused ?_, fun i r press named before fault => refused ?_⟩⟩
    · simp only [jobCommitRules, readMask, if_pos bad]
    · have maskOk : ¬ (mask = 0 ∨ 4096 ≤ mask) := by omega
      simp only [jobCommitRules, readMask, readJob, if_neg maskOk, if_pos none]
    · have maskOk : ¬ (mask = 0 ∨ 4096 ≤ mask) := by omega
      simp only [jobCommitRules, readMask, readJob, readFlags, if_neg maskOk, if_neg jobSome.ne', if_pos above]
    · have maskOk : ¬ (mask = 0 ∨ 4096 ≤ mask) := by omega
      simp only [jobCommitRules, readMask, readJob, readFlags, if_neg maskOk, if_neg jobSome.ne', if_neg (not_le.2 range),
        if_pos printing]
    · have maskOk : ¬ (mask = 0 ∨ 4096 ≤ mask) := by omega
      have first : s.commitRefusal (maskTowers mask) job (flags.toNat.testBit 1) = some (i, r) := by
        rw [flags_force range]
        refine State.commitRefusal_first named ?_ fun j less inMask => ?_
        · rcases fault with ⟨off, rfl⟩ | ⟨on, none, rfl⟩ | ⟨q, on, staged, ⟨bad, rfl⟩ | ⟨good, other, rfl⟩⟩
          · exact Tower.commitFault_off off _ _
          · exact Tower.commitFault_empty on none _ _
          · rw [Tower.commitFault_staged on staged]
            exact if_pos (bad.imp_right fun h => ⟨h.1, decide_eq_false (not_le.2 h.2)⟩)
          · rw [Tower.commitFault_staged on staged, if_neg, if_neg other]
            rintro (loading | ⟨part, unforced⟩)
            · rw [loading] at good
              exact good.elim nofun fun h => nomatch h.1
            · rw [part] at good
              exact good.elim nofun fun h => of_decide_eq_false unforced h.2
        · obtain ⟨on, q, staged, closed, forced, same⟩ := before j less inMask
          exact Tower.commitFault_of_ready on ⟨q, staged, closed, fun part => decide_eq_true (forced part), same⟩
      simp only [jobCommitRules, readMask, readJob, readFlags, if_neg maskOk, if_neg jobSome.ne', if_neg (not_le.2 range),
        if_neg press, first]
  · intro p trimRun reportRun
    have trims : (s16Run (p.drop 3)).length = trimRun := by rw [s16Run_length, List.length_drop]
    have reports : (s16Run (p.drop 2)).length = reportRun := by rw [s16Run_length, List.length_drop]
    have trimRefused (held : s.holds .keyTrim t) {r : Result} {data : List Byte} (e : keyTrimRules s p = refuse s r data) :
        exec .keyTrim s = .next (s.replied t r data) := management_refused held e
    have reportRefused (held : s.holds .densityReport t) {r : Result} {data : List Byte}
        (e : densityReportRules s p = refuse s r data) : exec .densityReport s = .next (s.replied t r data) :=
      management_refused held e
    refine ⟨fun held => ⟨fun above => trimRefused held ?_, fun i number => ⟨fun off => trimRefused held ?_,
        fun on mode => trimRefused held ?_, fun on mode out => trimRefused held ?_⟩⟩,
      fun held => ⟨fun above => reportRefused held ?_, fun i number => ⟨fun idle => reportRefused held ?_,
        fun printing off => reportRefused held ?_, fun printing on out => reportRefused held ?_⟩⟩⟩
    · simp only [keyTrimRules, towerOf_eq_none above]
    · simp only [keyTrimRules, towerOf_eq_some number, if_pos off]
    · simp only [keyTrimRules, towerOf_eq_some number, on, Bool.true_eq_false, if_false, if_pos mode]
    · have range := keyRangeOk_false out
      rw [← trims] at range
      simp only [keyTrimRules, towerOf_eq_some number, on, Bool.true_eq_false, if_false, if_neg (not_lt.2 mode), range, if_true]
    · simp only [densityReportRules, towerOf_eq_none above]
    · simp only [densityReportRules, towerOf_eq_some number, if_pos idle]
    · simp only [densityReportRules, towerOf_eq_some number, if_neg (not_not.2 printing), if_pos off]
    · have range := keyRangeOk_false out
      rw [← reports] at range
      simp only [densityReportRules, towerOf_eq_some number, if_neg (not_not.2 printing), on, Bool.true_eq_false, if_false,
        range, if_true]

end Sys2Proof.Machine
end

section
/-! PROOFS. DENSITY_REPORT: the gating of a key and the accepted report (R89 to R98). -/

namespace Sys2Proof.Machine

/-! ### Gating (R90 to R95) -/

theorem clampDeviation_eq {carried : Int} (measured : carried ≠ -32768) :
    clampDeviation carried = max (-200) (min 200 carried) :=
  (if_neg measured).trans (clampInt_eq_max_min (by decide) carried)

theorem correctedCorr_eq (u : Setup) (saturation : Saturation) (corr d : Int) : correctedCorr u saturation corr d =
    max (-(u.corrLimit : Int)) (min u.corrLimit (corr + antiWindup saturation (limitedIncrement u d))) :=
  clampInt_eq_max_min (by omega) _

section gating
variable {k : Key} {u : Setup} {sheets : Sheets} {d : Int} {c : Computed}

theorem Key.density_noMeasure : k.density u sheets (-32768) = .noMeasure := if_pos rfl

/-- The gating of a measured deviation goes by the key's computed fields (R91). -/
theorem Key.density_computed (measured : d ≠ -32768) (computed : k.computed = some c) : k.density u sheets d =
    if c.saturation = .closed then .noTarget
    else if k.state ≠ .settled then .notSettled
    else if k.lagging sheets u.lagSheets = true then .lag
    else if d.natAbs ≤ u.deadBand then .deadBand
    else if correctedCorr u c.saturation k.corr d = k.corr then .unchanged
    else .changed (correctedCorr u c.saturation k.corr d) := by
  unfold Key.density
  rw [if_neg (by exact measured), computed]

theorem Key.density_none (measured : d ≠ -32768) (none : k.computed = none) : k.density u sheets d = .noTarget := by
  unfold Key.density
  rw [if_neg (by exact measured), none]

/-- The sheets since a key settled, modulo 2^32 (R91, R92). -/
theorem Key.lagging_iff {settled : Sheets} (settledAt : k.settledAt = some settled) (lag : Nat) :
    k.lagging sheets lag = true ↔ (sheets.toNat + (2 ^ 32 - settled.toNat)) % 2 ^ 32 < lag := by
  unfold Key.lagging
  rw [settledAt]
  show decide ((sheets - settled).toNat < lag) = true ↔ _
  rw [decide_eq_true_eq, BitVec.toNat_sub, Nat.add_comm]

end gating

/-- Settles O25. -/
theorem densityGating : Obligations.DensityGating := by
  intro k u sheets carried d out
  refine ⟨fun marker => ?_, fun measured => ?_⟩
  · show k.density u sheets (clampDeviation carried) = .noMeasure
    rw [marker]
    exact Key.density_noMeasure
  · have clamped : clampDeviation carried = d := clampDeviation_eq measured
    have real : d ≠ -32768 := by omega
    have is : out = k.density u sheets d := congrArg (k.density u sheets) clamped
    rw [is]
    refine ⟨Key.density_none real, fun c computed => ?_⟩
    rw [Key.density_computed real computed]
    refine ⟨fun closed => if_pos closed, fun target moving => (if_neg target).trans (if_pos moving),
      fun settled target state settledAt => ?_⟩
    rw [if_neg target, if_neg (not_not.2 state)]
    by_cases lags : k.lagging sheets u.lagSheets = true
    · exact .inl ⟨(Key.lagging_iff settledAt _).1 lags, if_pos lags⟩
    · refine .inr ⟨not_lt.1 fun h => lags ((Key.lagging_iff settledAt _).2 h), ?_⟩
      rw [if_neg lags]
      by_cases dead : d.natAbs ≤ u.deadBand
      · exact .inl ⟨dead, if_pos dead⟩
      · refine .inr ⟨not_le.1 dead, ?_⟩
        rw [if_neg dead, correctedCorr_eq]
        intro corr
        by_cases same : corr = k.corr
        · exact .inl ⟨same, if_pos same⟩
        · exact .inr ⟨same, if_neg same⟩

/-! ### The accepted report (R95 to R98) -/

theorem clampDeviation_ne {d : Int} : (clampDeviation d != d) = true ↔ d ≠ -32768 ∧ (d < -200 ∨ 200 < d) := by
  rw [bne_iff_ne]
  by_cases marker : d = -32768
  · rw [marker]
    decide
  · rw [clampDeviation_eq marker]
    omega

theorem ofClamped_any (deviations : List Int) (p : Int → Bool) :
    Result.ofClamped (deviations.any p) = if deviations.countP p = 0 then .ok else .clamped := by
  have some' : deviations.any p = decide (0 < deviations.countP p) := by
    rw [Bool.eq_iff_iff, List.any_eq_true, decide_eq_true_eq, List.countP_pos_iff]
  rw [some', Result.ofClamped_pos]

theorem DensityOutcome.isChanged_getD (o : Option DensityOutcome) : (o.map DensityOutcome.isChanged).getD false =
    match o with
    | some (.changed _) => true
    | _ => false := by
  cases o with
  | none => rfl
  | some o => cases o <;> rfl

theorem DensityOutcome.atLimit_getD (limit : Nat) (o : Option DensityOutcome) :
    (o.map (DensityOutcome.atLimit limit)).getD false = match o with
      | some (.changed corr) => corr.natAbs == limit
      | _ => false := by
  cases o with
  | none => rfl
  | some o => cases o <;> rfl

theorem countP_filterMap_getD {α β : Type} (f : α → Option β) (p : β → Bool) (l : List α) :
    (l.filterMap f).countP p = l.countP fun a => ((f a).map p).getD false := by
  induction l with
  | nil => rfl
  | cons a l ih =>
    rw [List.countP_cons, ← ih]
    cases value : f a with
    | none => rw [List.filterMap_cons_none value]; rfl
    | some b => rw [List.filterMap_cons_some value, List.countP_cons]; rfl

/-- The outcome at a key, in the words of R89. -/
theorem densityAt_eq (u : Setup) (sheets : Sheets) (first : Nat) (deviations : List Int) (k : Key) :
    densityAt u sheets first deviations k = if first ≤ k.index then
        (deviations[k.index - first]?).map fun d => k.density u sheets (clampDeviation d)
      else none := by
  unfold densityAt runValue
  split <;> rfl

/-- The rules of a telegram that names an enabled tower and a run of its keys, while PRINTING (R89 to R98). -/
theorem densityReportRules_accepted {s : State} {p : List Byte} {i : TowerIx} {first : Nat} {deviations : List Int}
    (tower : towerOf (byteAt p 0) = some i) (firstKey : byteAt p 1 = first) (run : s16Run (p.drop 2) = deviations)
    (printing : s.press.state = .printing) (on : (s.tower i).setup.enabled = true)
    (inRange : keyRangeOk first deviations.length (s.tower i).setup.keyCount = true) :
    densityReportRules s p =
      (let at' := densityAt (s.tower i).setup s.sheetCount first deviations
      { state := s.applyReport i at', result := .ofClamped (deviations.any fun d => clampDeviation d != d),
        data := densityData i first deviations (s.tower i).setup.corrLimit ((s.tower i).keys.filterMap at') }) := by
  simp only [densityReportRules, tower, firstKey, run, if_neg (not_not.2 printing), on, Bool.true_eq_false, if_false, inRange]

/-- Settles O27. -/
theorem densityReportAccepted : Obligations.DensityReportAccepted := by
  intro s t i first deviations held w printing on low high count _ range payload outcome u atLimit number clamped changed
    written raised
  have is : outcome = densityAt w.setup s.sheetCount first deviations :=
    funext fun k => (densityAt_eq _ _ _ _ k).symm
  have named : towerOf (byteAt t.payload 0) = some i := byteAt_of_head (by rw [payload]; rfl)
  have firstKey : byteAt t.payload 1 = first := by
    rw [payload]
    exact byteOf_toNat_small (by omega)
  have run : s16Run (t.payload.drop 2) = deviations := by
    rw [payload]
    exact s16Run_flatMap deviations range
  have rules := densityReportRules_accepted named firstKey run printing on (keyRangeOk_of_le low high)
  have limits : atLimit = w.keys.filter fun k => ((outcome k).map (DensityOutcome.atLimit w.setup.corrLimit)).getD false :=
    List.filter_congr fun k _ => (DensityOutcome.atLimit_getD _ _).symm
  have data : densityData i first deviations w.setup.corrLimit (w.keys.filterMap outcome) =
      [byteOf i.val, byteOf first, byteOf deviations.length, byteOf changed, byteOf clamped, byteOf atLimit.length,
        number .noMeasure, number .noTarget, number .notSettled, number .lag, number .deadBand, number .unchanged] := by
    have changes : (w.keys.filterMap outcome).countP DensityOutcome.isChanged = changed := by
      rw [countP_filterMap_getD]
      exact List.countP_congr fun k _ => by rw [DensityOutcome.isChanged_getD] <;> rfl
    have clamps : (deviations.countP fun d => clampDeviation d != d) = clamped :=
      List.countP_congr fun d _ => clampDeviation_ne.trans decide_eq_true_iff.symm
    have reach : (w.keys.filterMap outcome).countP (DensityOutcome.atLimit w.setup.corrLimit) = atLimit.length := by
      rw [countP_filterMap_getD, limits, List.countP_eq_length_filter]
    unfold densityData
    rw [changes, clamps, reach]
  have result : Result.ofClamped (deviations.any fun d => clampDeviation d != d) = if clamped = 0 then .ok else .clamped := by
    rw [ofClamped_any, show (deviations.countP fun d => clampDeviation d != d) = clamped from
      List.countP_congr fun d _ => clampDeviation_ne.trans decide_eq_true_iff.symm]
  have keys : w.keys.map (s.keyReported i outcome) = w.keys.map fun k => match outcome k with
      | some (.changed corr) => s.keyRecomputed i w { k with corr := corr }
      | _ => k := rfl
  have state : s.applyReport i outcome = (s.withTower i u).raiseAll raised := by
    rw [State.applyReport_eq, State.raised_derived, Tower.limitOccurrences, ← limits]
    rfl
  dsimp only at rules
  rw [← is, state, result, data] at rules
  refine (management_replied held rules).trans (congrArg (fun v => Host.Outcome.next (State.judgeNotices v)) ?_)
  exact State.raiseAll_answered _ _ _ _ _ _

end Sys2Proof.Machine
end
